-- ==== Sys2Proof/Word.lean ====
section
/-! DEFINITION. The words of the GN-316: bytes, 16-bit table fields, the 32-bit time base (section 5 of the overview, R181),
and the plainest maps over the part's fixed-size tables. -/

namespace Sys2Proof

/-- One byte of a frame, a buffer block or the configuration memory. -/
abbrev Byte := BitVec 8

/-- A 16-bit quantity that the manual treats as bits: a CRC, a drop map, the event status word. -/
abbrev Half := BitVec 16

/-- A value of the 32-bit millisecond time base (R181). -/
abbrev Time := BitVec 32

/-- A fixed-size table with `f` applied to every entry. -/
def vmap {α β : Type} {n : Nat} (f : α → β) (v : Vector α n) : Vector β n :=
  ⟨⟨v.toList.map f⟩, by simp⟩

/-- A fixed-size table with `f` applied to every entry and its index. -/
def vmapIdx {α β : Type} {n : Nat} (f : Fin n → α → β) (v : Vector α n) : Vector β n :=
  ⟨⟨(List.finRange n).map fun i => f i v[i]⟩, by simp⟩

/-- A fixed-size table given entry by entry. -/
def vgen {α : Type} {n : Nat} (f : Fin n → α) : Vector α n :=
  ⟨⟨(List.finRange n).map f⟩, by simp⟩

end Sys2Proof
end

