-- ==== Sys2Proof/Syntax.lean ====
section
/-! DEFINITION. The commands the block takes: one constructor per row of spec/opcode_table.json, in the table's order,
each with the operands the step needs from outside. A step that an internal endpoint carries out on a frame it takes
from LOCAL has no operand of its own but the memory errors that have appeared (`Upsets`): the frame is the request. -/

namespace Sys2Proof

/-- The two trunk ports, TPE and TPW (chapter 1). -/
inductive TPort where
  | east
  | west
  deriving DecidableEq, Repr, Inhabited

/-- The opposite trunk port (R14). -/
def TPort.other : TPort → TPort
  | .east => .west
  | .west => .east

/-- A port of the node: a trunk port, or spur port SP1 to SP6 (index 0 to 5). -/
inductive PortId where
  | trunk (p : TPort)
  | spur (n : Fin 6)
  deriving DecidableEq, Repr, Inhabited

/-- One 8-byte word of the frame buffer in which bits have changed since the buffer was last read (R74):
`fatal` when the code can no longer correct it. -/
structure Upset where
  block : Fin 256
  word : Fin 16
  fatal : Bool
  deriving DecidableEq, Repr

/-- The words of the buffer found changed since the last step that read it. -/
abbrev Upsets := List Upset

/-- The commands, one per row of the table of operations and events. -/
inductive Instr where
  /-- POWER_ON: `saved` is how many bytes of a running SAVE had reached the memory when power went (R183). -/
  | powerOn (saved : Nat)
  /-- CONFIG_RECORD_APPLY: `stopsAfter` is after how many bytes of this record the memory stops acknowledging, if it does. -/
  | configRecordApply (stopsAfter : Option Nat)
  | trunkSignalRise (p : TPort)
  | trunkSignalLoss (p : TPort)
  | trunkLockRise (p : TPort)
  | trunkLockLoss (p : TPort)
  | helloTimerExpiry (p : TPort)
  | helloReceive (p : TPort) (bytes : List Byte)
  | identTimerExpiry (p : TPort)
  | silenceTimerExpiry (p : TPort)
  | trunkFrameReceive (p : TPort) (bytes : List Byte)
  | broadcastMemoryAgeing
  | trunkTransmitDone (p : TPort) (u : Upsets)
  | spurPresenceRise (n : Fin 6)
  | spurPresenceFall (n : Fin 6)
  | detectTimerExpiry (n : Fin 6)
  | describeTimerExpiry (n : Fin 6)
  | descriptorReceive (n : Fin 6) (bytes : List Byte)
  | readyReceive (n : Fin 6) (bytes : List Byte)
  | readyTimerExpiry (n : Fin 6)
  /-- SPUR_OVERCURRENT: the overcurrent input now reads low (`low`) or high again. -/
  | spurOvercurrent (n : Fin 6) (low : Bool)
  | spurFrameReceive (n : Fin 6) (bytes : List Byte)
  | spurTransmitDone (n : Fin 6) (u : Upsets)
  | outputConfirmReceive (n : Fin 6) (bytes : List Byte)
  | confirmTimerExpiry (n : Fin 6) (slot : Fin 4)
  /-- POLL_START: the attention input now reads `attn`; a poll starts when every condition of R38 holds. -/
  | pollStart (n : Fin 6) (attn : Bool)
  | attnSummaryReceive (n : Fin 6) (bytes : List Byte)
  | queryTimerExpiry (n : Fin 6)
  | lineReportReceive (n : Fin 6) (bytes : List Byte)
  | reportTimerExpiry (n : Fin 6)
  | spurReset (u : Upsets)
  /-- CLASSIFY_FRAME: CLS takes the oldest frame that port `p` has stored. -/
  | classifyFrame (p : PortId) (u : Upsets)
  | exchangeRuleset (u : Upsets)
  | bankRetire (u : Upsets)
  | bankRestore (u : Upsets)
  | scrubTimerExpiry (bank : Fin 4)
  | sampleReceive (u : Upsets)
  | staleExpiry (ch : Fin 48)
  | resetTrip (u : Upsets)
  | inhibit (u : Upsets)
  | endInhibit (u : Upsets)
  | inhibitExpiry (ch : Fin 48)
  /-- ZONE_REPORT_PERIODIC for the zone of number `z + 1`. -/
  | zoneReportPeriodic (z : Fin 31)
  | zoneReportReceive (u : Upsets)
  | reporterAgeing (z : Fin 31) (node : Nat)
  | forceZoneTrip (u : Upsets)
  | releaseZoneForce (u : Upsets)
  | clearReporter (u : Upsets)
  | relayFeedbackChange (r : Fin 4) (closed : Bool)
  | mismatchTimerExpiry (r : Fin 4)
  | callSetupReceive (u : Upsets)
  | callAlertReceive (u : Upsets)
  | callConnectReceive (u : Upsets)
  | callVoiceReceive (u : Upsets)
  | callReleaseReceive (u : Upsets)
  | circuitDeadlineExpiry (id : Nat)
  | releaseCircuit (u : Upsets)
  | entryRequestReceive (u : Upsets)
  | haulClearReceive (u : Upsets)
  | beaconReceive (u : Upsets)
  | leaseExpiry (seg : Fin 16) (truck : Nat)
  | waitExpiry (seg : Fin 16) (truck : Nat)
  | truckEntryExpiry (truck : Nat)
  | openSegment (u : Upsets)
  | closeSegment (u : Upsets)
  | releaseOccupant (u : Upsets)
  | gapTimerExpiry
  | fastRepeatExpiry
  | slowRepeatExpiry
  | ackAlarm (u : Upsets)
  | postAlarm (u : Upsets)
  | clearPosted (u : Upsets)
  | alarmFrameDiscard (u : Upsets)
  | read (u : Upsets)
  | readTrunks (u : Upsets)
  | writeNode (u : Upsets)
  | writeWindows (u : Upsets)
  | writeDirection (u : Upsets)
  | writeRulesetA (u : Upsets)
  | writeRulesetB (u : Upsets)
  | writeReplyPages (u : Upsets)
  | writeChannels (u : Upsets)
  | writeZones (u : Upsets)
  | writeRelays (u : Upsets)
  | writeSegments (u : Upsets)
  | writeRoster (u : Upsets)
  | writeActions (u : Upsets)
  | writeSpurs (u : Upsets)
  | writeOther (u : Upsets)
  | clearEvents (u : Upsets)
  | save (u : Upsets)
  /-- SAVE_END: `stopped` is after how many bytes the memory stopped acknowledging, none when it took them all. -/
  | saveEnd (stopped : Option Nat)
  | restart (u : Upsets)
  | restartFlush
  | mgmtFrameDiscard (u : Upsets)
  | badOperationRequest (u : Upsets)
  deriving DecidableEq, Repr

end Sys2Proof
end

