-- ==== Sys2Proof/Decode.lean ====
section
/-! DEFINITION. The command a word spells. spec/opcode_table.json gives no row any bits (the block has no instruction
encoding: its commands are arrivals, timer expiries, pins and internal steps), so no word spells one. The encodings the
manual does give, of drift frames, line frames and stored records, are in Sys2Proof/Machine/Operands.lean. -/

namespace Sys2Proof

/-- The command that the word `w` of `nbits` bits spells by the table's bits: the table gives none. -/
def decodeTableWord (_nbits _w : Nat) : Option Instr := none

end Sys2Proof
end

