-- ==== Sys2Proof/Config.lean ====
section
/-! DEFINITION. The figures the manual fixes (timer lengths, limits) and the free values: constants with no body, for
values the manual leaves unstated. -/

namespace Sys2Proof.Config

/-- The trunk port that a frame for destination node `n` tries first when `n` is not one the direction table is defined
for (0, or 64 to 255: a management request's source may carry any byte). A FREE VALUE: R20 gives no entry for such a
node (notes/assumptions/3.md). -/
opaque strayPort : Nat → TPort

/-- The last tag that the entry of a truck takes, at a moment of the time base, from a frame that carries no reply context (R139
gives the tag "of that frame's reply context" only). A FREE VALUE (notes/assumptions/4.md). -/
opaque tagWithoutContext : Nat → Time → Half

/-- R4: the HELLO timer's period. -/
def helloMs : Nat := 500
/-- R3: the ident timer. -/
def identMs : Nat := 2000
/-- R7: the silence timer. -/
def silenceMs : Nat := 2000
/-- R17: how long a broadcast memory entry is kept. -/
def broadcastMs : Nat := 500
/-- R17: how many entries the broadcast memory holds. -/
def broadcastEntries : Nat := 64
/-- R24: how long presence must be steady. -/
def detectMs : Nat := 100
/-- R25: how long a DESCRIBE waits for its answer. -/
def describeMs : Nat := 500
/-- R26: how long a POWERED port waits for READY. -/
def readyMs : Nat := 2000
/-- R38: the query timer. -/
def queryMs : Nat := 50
/-- R38: the hold-off after an abandoned poll. -/
def holdOffMs : Nat := 1000
/-- R39: the report timer. -/
def reportMs : Nat := 100
/-- R78: the scrub timer. -/
def scrubMs : Nat := 10
/-- R82: the age beyond which a voice frame is discarded at its turn. -/
def voiceMs : Nat := 200
/-- R109: the period of zone reports. -/
def zoneReportMs : Nat := 10000
/-- R111: the age at which a reporter entry becomes STALE. -/
def reporterMs : Nat := 35000
/-- R117: the mismatch timer. -/
def mismatchMs : Nat := 200
/-- R131: the answer deadline, first part. -/
def admitMs : Nat := 10000
/-- R131: the answer deadline, second part. -/
def alertMs : Nat := 45000
/-- R131: the idle deadline. -/
def idleMs : Nat := 30000
/-- R150: how long a truck with no place stays in the truck table. -/
def truckMs : Nat := 600000
/-- R166: the pacing gap. -/
def gapMs : Nat := 50
/-- R168: the fast repeat timer. -/
def fastMs : Nat := 10000
/-- R168: the slow repeat timer. -/
def slowMs : Nat := 60000
/-- R102: a minute of inhibit. -/
def minuteMs : Nat := 60000
/-- R176: the most bytes of data a reply carries. -/
def replyBytes : Nat := 238

end Sys2Proof.Config
end

