-- ==== Sys2Proof/Machine/State.lean ====
section
/-! DEFINITION. The state of the GN-316, block by block (overview, section 3), as plain data, and its reset. Numbers that the
manual treats as numbers are Nat; maps, masks and words of flags are bit vectors; sets of names are inductive types.
Spur SPn is index n - 1, zone z is index z - 1, relay k is index k - 1. -/

namespace Sys2Proof.Machine

/-! ## Frames -/

/-- The frame classes of R185, in code order. -/
inductive FrameClass where
  | ident | mgmt | alarm | air | call | haul | bulk | line
  deriving DecidableEq, Repr, Inhabited

/-- An address node.station (overview, section 5). -/
structure Addr where
  node : Nat
  station : Nat
  deriving DecidableEq, Repr, Inhabited

/-- A drift frame (section 11.1). Its payload length field is the payload's length, its CRC is written by the port that
sends it. -/
structure Frame where
  cls : FrameClass
  level : Nat
  hop : Nat
  wrapped : Bool
  dst : Addr
  src : Addr
  zone : Nat
  subtype : Nat
  tag : Nat
  payload : List Byte
  deriving DecidableEq, Repr, Inhabited

/-- What a stored frame is: a drift frame, or bytes in a foreign format (foreign frames, reply pages). -/
inductive Body where
  | drift (f : Frame)
  | raw (bytes : List Byte)
  deriving DecidableEq, Repr, Inhabited

/-- The reply kinds of R52, field 20. -/
inductive ReplyKind where
  | noReply | echo | haulAnswer
  deriving DecidableEq, Repr, Inhabited

/-- The reply context of R50. -/
structure ReplyCtx where
  spur : Fin 6
  drop : Fin 16
  tag : Nat
  page : Option (Fin 8)
  kind : ReplyKind
  deriving DecidableEq, Repr, Inhabited

/-- Where a frame held by the node came from, as R19 and R21 tell frames apart. -/
inductive Origin where
  /-- received on a trunk port -/
  | transit (arrived : TPort)
  /-- received on a spur port -/
  | spur
  /-- an ANNOUNCE of the alarm entry with this serial (R167) -/
  | announce (serial : Nat)
  /-- a zone report of AEV (R109) -/
  | zoneReport
  /-- a reply or notice of MGE; `restart` marks the RESTART reply (R184) -/
  | manage (restart : Bool)
  /-- an answer of HLC (R142) -/
  | haul
  /-- sent by CSW toward a side of circuit `id` (R121) -/
  | call (id : Nat) (towardA : Bool) (subtype : Nat)
  deriving DecidableEq, Repr, Inhabited

/-- The target of a frame directed to a spur port (R32). -/
inductive Target where
  | drop (d : Fin 16)
  | allDrops
  deriving DecidableEq, Repr, Inhabited

/-- A frame held in the buffer: its content, its blocks, and what the node keeps with it. -/
structure Stored where
  body : Body
  /-- the level it is queued at -/
  level : Nat
  blocks : List Nat
  origin : Origin
  /-- the port it arrived on, for frames received (R120) -/
  arrival : Option PortId
  ctx : Option ReplyCtx
  target : Target
  /-- queue entry time (R80), from its first placement on a queue -/
  entry : Option Time
  deriving DecidableEq, Repr, Inhabited

/-! ## Trunk ports (chapter 1) -/

inductive LinkState where
  | down | training | identWait | up | mismatch
  deriving DecidableEq, Repr, Inhabited

inductive LinkCause where
  | noCause | signalLost | silent | lockLost | identTimeout | ringMismatch | nodeClash
  deriving DecidableEq, Repr, Inhabited

/-- The neighbour record of R1. -/
structure Neighbour where
  valid : Bool
  ring : Nat
  node : Nat
  wrap : Bool
  island : Bool
  lastHello : Time
  deriving DecidableEq, Repr, Inhabited

/-- The frame a trunk transmitter is sending (R18). -/
inductive TrunkTx where
  | hello (f : Frame)
  | stored (f : Stored)
  deriving DecidableEq, Repr, Inhabited

/-- The port record of R1, the two inputs of the transceiver, and the transmitter of R18. A timer holds the time base
value at which it expires; a stopped one holds none. -/
structure TrunkPort where
  signal : Bool
  lock : Bool
  state : LinkState
  cause : LinkCause
  entered : Time
  latch : Bool
  nb : Neighbour
  helloDue : Option Time
  identDue : Option Time
  silenceDue : Option Time
  helloWaiting : Bool
  tx : Option TrunkTx
  deriving DecidableEq, Repr, Inhabited

/-- An entry of the broadcast memory (R17). -/
structure BroadcastEntry where
  src : Addr
  cls : FrameClass
  subtype : Nat
  tag : Nat
  len : Nat
  check : Half
  time : Time
  deriving DecidableEq, Repr, Inhabited

/-! ## Spur ports (chapter 2) -/

inductive AttachState where
  | empty | detected | interrogating | powerDenied | powered | active | faulted
  deriving DecidableEq, Repr, Inhabited

inductive SpurFault where
  | noFault | noDescriptor | noReady | overcurrent
  deriving DecidableEq, Repr, Inhabited

inductive DropKind where
  | native | foreign | attention
  deriving DecidableEq, Repr, Inhabited

inductive OutState where
  | noOutput | settled | pending | inFlight | unconfirmed
  deriving DecidableEq, Repr, Inhabited

/-- The stored descriptor of R26. -/
structure Descriptor where
  power : Nat
  map : Half
  kinds : Vector DropKind 16
  deriving DecidableEq, Repr, Inhabited

/-- The drop record of R23. `mismatched` says that a PENDING drop came to PENDING by a mismatched confirmation (R34). -/
structure Drop where
  present : Bool
  kind : DropKind
  zone : Nat
  desired : BitVec 4
  confirmed : BitVec 4
  out : OutState
  sent : BitVec 4
  retry : Nat
  faultReported : Bool
  mismatched : Bool
  deriving DecidableEq, Repr, Inhabited

/-- An output slot held by a drop: its confirm timer, whether an OUTPUT_SET has left since the drop took it, and whether
its OUTPUT_SET is in the transmitter. -/
structure Slot where
  drop : Fin 16
  confirmDue : Option Time
  sent : Bool
  sending : Bool
  deriving DecidableEq, Repr, Inhabited

inductive PollState where
  | idle | query | request
  deriving DecidableEq, Repr, Inhabited

inductive Grade where
  | urgent | routine
  deriving DecidableEq, Repr, Inhabited

/-- The poll record of R22. `waiting`: its frame waits for the line; `sending`: its frame is in the transmitter; `due`: the
query or report timer. -/
structure Poll where
  state : PollState
  grade : Grade
  again : Bool
  current : Fin 16
  silent : Half
  holdOff : Option Time
  due : Option Time
  waiting : Bool
  sending : Bool
  deriving DecidableEq, Repr, Inhabited

/-- The frame a spur transmitter is sending (R33). -/
inductive SpurTx where
  | describe
  | attnQuery (g : Grade)
  | reportRequest (g : Grade) (d : Fin 16)
  | outputSet (slot : Fin 4) (d : Fin 16) (mask : BitVec 4)
  | stored (f : Stored)
  deriving DecidableEq, Repr, Inhabited

/-- The port record of R22 with its drop records (R23), its three inputs, its SPURS entry (R43) and its transmitter.
`setsWaiting` lists the slots whose OUTPUT_SET waits for the line, longest first. -/
structure SpurPort where
  pres : Bool
  attn : Bool
  ocLow : Bool
  state : AttachState
  fault : SpurFault
  entered : Time
  descriptor : Option Descriptor
  granted : Nat
  tries : Nat
  attachDue : Option Time
  describeWaiting : Bool
  slots : Vector (Option Slot) 4
  setsWaiting : List (Fin 4)
  poll : Poll
  drops : Vector Drop 16
  confirmMs : Nat
  retryLimit : Nat
  tx : Option SpurTx
  deriving DecidableEq, Repr, Inhabited

/-! ## Classifier (chapter 3) -/

/-- An address window (R45). -/
structure Window where
  base : Nat
  limit : Nat
  deriving DecidableEq, Repr, Inhabited

/-- An extraction field of R52: offset and width. -/
structure Extract where
  offset : Nat
  width : Nat
  deriving DecidableEq, Repr, Inhabited

/-- A signature filter (R52). -/
structure Filter where
  enabled : Bool
  spurs : BitVec 6
  offset : Nat
  mask : BitVec 32
  crc : Half
  last : Nat
  cascade : Bool
  cls : FrameClass
  subtype : Nat
  level : Nat
  dst : Addr
  tag : Extract
  value1 : Extract
  value2 : Extract
  page : Option (Fin 8)
  reply : ReplyKind
  deriving DecidableEq, Repr, Inhabited

/-- A default destination (R57, R58): the address of an absent one is stored but not used. -/
structure Default where
  present : Bool
  addr : Addr
  deriving DecidableEq, Repr, Inhabited

/-- A rule set. -/
structure RuleSet where
  filters : Vector Filter 8
  floors : Vector Nat 8
  defaults : Vector Default 6
  deriving DecidableEq, Repr, Inhabited

inductive SetName where
  | a | b
  deriving DecidableEq, Repr, Inhabited

/-- A patch slot of a reply page (R63). -/
structure PatchSlot where
  offset : Nat
  kind : Nat
  width : Nat
  deriving DecidableEq, Repr, Inhabited

/-- A reply page (R63). -/
structure Page where
  used : Nat
  hasSum : Bool
  sumOffset : Nat
  partialSum : Nat
  slots : Vector PatchSlot 4
  bytes : Vector Byte 64
  deriving DecidableEq, Repr, Inhabited

/-- A frame stored by a port that CLS has not yet taken (R61). For a frame from a spur, its drop, kind and zone as they
stood when it was accepted (R31). -/
structure Waiting where
  port : PortId
  drop : Fin 16
  kind : DropKind
  zone : Nat
  frame : Stored
  deriving DecidableEq, Repr, Inhabited

/-- CLS (R44). -/
structure Classifier where
  windows : Vector Window 6
  direction : Vector TPort 64
  setA : RuleSet
  setB : RuleSet
  live : SetName
  generation : Nat
  pages : Vector Page 8
  waiting : List Waiting
  deriving DecidableEq, Repr

/-! ## Frame buffer and egress scheduler (chapter 4) -/

inductive BankState where
  | inService | retiring | retired | restoring
  deriving DecidableEq, Repr, Inhabited

inductive RetireCause where
  | noCause | uncorrectable | correctedLimit | command
  deriving DecidableEq, Repr, Inhabited

/-- A bank record (R69). -/
structure Bank where
  state : BankState
  retirePending : Bool
  cause : RetireCause
  corrected : Nat
  uncorrectable : Nat
  scrubDue : Option Time
  deriving DecidableEq, Repr, Inhabited

/-- A stored 8-byte word in error (R74). -/
structure BadWord where
  block : Nat
  word : Nat
  fatal : Bool
  deriving DecidableEq, Repr, Inhabited

/-- FBF (R69): the banks, the free pool in order, the blocks held by frames, the words in error, the alarm reserve. -/
structure Buffer where
  banks : Vector Bank 4
  free : List Nat
  held : List Nat
  bad : List BadWord
  reserve : Nat
  deriving DecidableEq, Repr

/-- An egress queue in service order, with its three counters (R80). -/
structure Queue where
  frames : List Stored
  pushOuts : Nat
  refusals : Nat
  stale : Nat
  deriving DecidableEq, Repr, Inhabited

/-! ## Air evaluator (chapters 5 and 6) -/

inductive Gas where
  | ch4 | co | o2 | co2 | airflow
  deriving DecidableEq, Repr, Inhabited

inductive Sense where
  | high | low
  deriving DecidableEq, Repr, Inhabited

inductive ChState where
  | starting | normal | warn | trip | fault | inhibited
  deriving DecidableEq, Repr, Inhabited

/-- A channel's configuration (R85). Actions hold true for TRIP. -/
structure ChannelCfg where
  enabled : Bool
  source : Addr
  gas : Gas
  zone : Nat
  sense : Sense
  zeroOffset : Nat
  gain : Nat
  fullScale : Nat
  shift : Nat
  warn : Nat
  trip : Nat
  hysteresis : Nat
  riseWindow : Nat
  riseLimit : Nat
  staleLimit : Nat
  failTrips : Bool
  latch : Bool
  overTrips : Bool
  deriving DecidableEq, Repr, Inhabited

/-- The causes of R89, field 21. -/
structure Causes where
  level : Bool
  rise : Bool
  overRange : Bool
  fail : Bool
  deriving DecidableEq, Repr, Inhabited

/-- The qualifier flags of R89, field 22. -/
structure QualFlags where
  overRange : Bool
  underRange : Bool
  indefinite : Bool
  deriving DecidableEq, Repr, Inhabited

/-- A channel: configuration (R85) and dynamic fields (R89). -/
structure Channel where
  cfg : ChannelCfg
  state : ChState
  computed : ChState
  causes : Causes
  flags : QualFlags
  latched : Bool
  lastRaw : Nat
  calibrated : Nat
  smoothed : Nat
  lastValid : Time
  markValue : Nat
  markTime : Time
  inhibitEnd : Time
  deriving DecidableEq, Repr, Inhabited

inductive ZState where
  | clear | alert | trip
  deriving DecidableEq, Repr, Inhabited

inductive RepState where
  | clear | alert | trip | stale
  deriving DecidableEq, Repr, Inhabited

/-- A reporter entry (R105). -/
structure Reporter where
  node : Nat
  state : RepState
  time : Time
  deriving DecidableEq, Repr, Inhabited

inductive HaulPolicy where
  | admitAll | admitRated | close
  deriving DecidableEq, Repr, Inhabited

/-- The zone record (R105). `gasWarn`: the GAS_WARN condition is active (R113). -/
structure Zone where
  enabled : Bool
  monitored : Bool
  policy : HaulPolicy
  force : Bool
  evaluated : Bool
  localState : ZState
  combined : ZState
  reporters : List Reporter
  lastSent : Time
  gasWarn : Bool
  deriving DecidableEq, Repr, Inhabited

/-! ## Permit relays (chapter 6) -/

inductive RelayFunc where
  | noFunction | zonePermit | islandLamp | severityAtLeast
  deriving DecidableEq, Repr, Inhabited

/-- The relay record (R114). -/
structure Relay where
  func : RelayFunc
  severity : Nat
  mask : BitVec 32
  energised : Bool
  closed : Bool
  mismatchDue : Option Time
  fault : Bool
  deriving DecidableEq, Repr, Inhabited

/-! ## Call switch (chapter 7) -/

inductive Precedence where
  | normal | priority | zone | emergency
  deriving DecidableEq, Repr, Inhabited

inductive CallState where
  | pending | alerting | connected
  deriving DecidableEq, Repr, Inhabited

/-- A circuit record (R118). Its role follows from its sides. -/
structure Circuit where
  id : Nat
  partyA : Addr
  partyB : Addr
  sideA : PortId
  sideB : PortId
  width : Nat
  prec : Precedence
  zone : Nat
  state : CallState
  deadline : Time
  admitted : Time
  connect : Time
  deriving DecidableEq, Repr, Inhabited

/-- CSW: the circuit table, oldest first, and the next-id pointer (R118). -/
structure CallSwitch where
  circuits : List Circuit
  nextId : Nat
  deriving DecidableEq, Repr

/-! ## Haul control (chapter 8) -/

/-- A roster entry (R138). -/
structure RosterEntry where
  truck : Nat
  enabled : Bool
  rated : Bool
  deriving DecidableEq, Repr, Inhabited

/-- A truck table entry (R139). -/
structure Truck where
  id : Nat
  heard : Time
  via : Addr
  page : Option (Fin 8)
  tag : Nat
  held : List Nat
  waiting : Option Nat
  deriving DecidableEq, Repr, Inhabited

inductive Direction where
  | inbye | outbye
  deriving DecidableEq, Repr, Inhabited

/-- An occupant entry (R140). -/
structure Occupant where
  truck : Nat
  dir : Direction
  granted : Time
  leaseEnd : Time
  overdue : Bool
  deriving DecidableEq, Repr, Inhabited

/-- A waiting entry (R140). -/
structure WaitEntry where
  truck : Nat
  dir : Direction
  time : Time
  deriving DecidableEq, Repr, Inhabited

inductive SegState where
  | opened | closed | gasClosed
  deriving DecidableEq, Repr, Inhabited

/-- A segment (R140). -/
structure Segment where
  id : Nat
  zone : Nat
  capacity : Nat
  lease : Nat
  waitLimit : Nat
  autoReopen : Bool
  state : SegState
  commandClose : Bool
  occupants : List Occupant
  waiting : List WaitEntry
  deriving DecidableEq, Repr, Inhabited

/-- HLC. -/
structure HaulControl where
  roster : Vector RosterEntry 64
  trucks : List Truck
  segments : Vector Segment 16
  deriving DecidableEq, Repr

/-! ## Alarm controller (chapter 9) -/

/-- The alarm kinds of R158, in number order from 1. -/
inductive AlarmKind where
  | gasTrip | gasWarn | channelFault | refugePanic | refugeDoor | refugeAir | refugeOccupied | callEmergency
  | haulOverdue | outputUnconfirmed | relayFault | bankFault | trunkLoss | spurFault | posted
  deriving DecidableEq, Repr, Inhabited

/-- A drop of a spur. -/
structure DropRef where
  spur : Fin 6
  drop : Fin 16
  deriving DecidableEq, Repr, Inhabited

/-- An alarm list entry (R158). `born` numbers the entries in the order in which they were given their serials. -/
structure Alarm where
  serial : Nat
  kind : AlarmKind
  source : Nat
  zone : Nat
  drop : Option DropRef
  action : Fin 16
  severity : Nat
  active : Bool
  acked : Bool
  raised : Time
  again : Bool
  due : Bool
  born : Nat
  deriving DecidableEq, Repr, Inhabited

inductive ActionMode where
  | announce | announceLocal | announceTrip | lockdown
  deriving DecidableEq, Repr, Inhabited

inductive Scope where
  | sourceDrop | zone | all
  deriving DecidableEq, Repr, Inhabited

/-- An action table entry (R162). -/
structure Action where
  mode : ActionMode
  severity : Nat
  mask : BitVec 4
  scope : Scope
  deriving DecidableEq, Repr, Inhabited

/-- ALC (R157). `gapDue`: the gap timer; the pacer is IDLE when it is stopped. `born`: serials given so far. -/
structure AlarmControl where
  alarms : List Alarm
  serial : Nat
  born : Nat
  actions : Vector Action 16
  lockdown : Vector Nat 31
  island : Bool
  zoneCopy : Vector ZState 31
  severityFlags : Vector Bool 15
  gapDue : Option Time
  fastDue : Time
  slowDue : Time
  deriving DecidableEq, Repr

/-! ## Management engine and configuration loader (chapter 10) -/

/-- The event kinds of R180, in bit order. -/
inductive EventKind where
  | loadError | rulesetExchanged | noRoute | malformed | queueDiscard | filterUnmatched | powerDenied | pollError
  | zoneReportOverflow | alarmOverflow | trunkChange | spurChange | circuitRefused | saveDone | bankChange | sampleRejected
  deriving DecidableEq, Repr, Inhabited

/-- The NODE table (R178). -/
structure NodeTable where
  ring : Nat
  node : Nat
  station1 : Addr
  station2 : Addr
  budget : Nat
  correctedLimit : Nat
  airFloor : Nat
  enables : Half
  queueLimits : Vector Nat 9
  voice : Vector Nat 8
  deriving DecidableEq, Repr, Inhabited

inductive LoadState where
  | loading | complete | stopped | absent
  deriving DecidableEq, Repr, Inhabited

inductive StopCause where
  | noCause | unknownTable | badIndex | badLength | refused | noAnswer
  deriving DecidableEq, Repr, Inhabited

inductive SaveResult where
  | noResult | done | failed
  deriving DecidableEq, Repr, Inhabited

/-- MGE: the NODE table, the event status word, the notices owed within the step that raised them, and whether a RESTART
waits for its reply to leave (R184). -/
structure Manager where
  table : NodeTable
  events : Half
  owed : List EventKind
  restarting : Bool
  deriving DecidableEq, Repr

/-- CFL: the load's record (R181, R182), the running save (R183) and the configuration memory itself, none when it is not
fitted. -/
structure Loader where
  load : LoadState
  position : Nat
  applied : Nat
  stopTable : Nat
  stopIndex : Nat
  stopCause : StopCause
  saving : Option (List Byte)
  lastSave : SaveResult
  memory : Option (List Byte)
  deriving DecidableEq, Repr

/-! ## The whole node -/

/-- The state of the node, with the queue of the commands that wait (`pending`, first in first out). -/
structure State where
  time : Time
  tpe : TrunkPort
  tpw : TrunkPort
  broadcasts : List BroadcastEntry
  spurs : Vector SpurPort 6
  cls : Classifier
  fbf : Buffer
  egs : Vector Queue 9
  channels : Vector Channel 48
  zones : Vector Zone 31
  relays : Vector Relay 4
  csw : CallSwitch
  hlc : HaulControl
  alc : AlarmControl
  mge : Manager
  cfl : Loader
  pending : List Instr
  deriving DecidableEq, Repr

/-- What stops the machine. The manual gives every step an effect on every state, so no step raises a fault: the type
has no value (safe: nothing can be claimed through a fault). -/
inductive Fault where
  deriving DecidableEq, Repr

/-- Why a command has no meaning. -/
inductive Refusal where
  /-- Raised by Dispatch alone, for a command whose meaning is not written; no arm uses it. Safe: the machine stops. -/
  | notModelled (mnemonic : String)
  deriving DecidableEq, Repr

/-! ## Power-on values -/

/-- R1. -/
def TrunkPort.powerOn : TrunkPort where
  signal := false
  lock := false
  state := .down
  cause := .noCause
  entered := 0
  latch := false
  nb := { valid := false, ring := 0, node := 0, wrap := false, island := false, lastHello := 0 }
  helloDue := none
  identDue := none
  silenceDue := none
  helloWaiting := false
  tx := none

/-- R23. -/
def Drop.powerOn : Drop where
  present := false
  kind := .native
  zone := 0
  desired := 0
  confirmed := 0
  out := .noOutput
  sent := 0
  retry := 0
  faultReported := false
  mismatched := false

/-- R22: the poll record IDLE, with no hold-off. -/
def Poll.powerOn : Poll where
  state := .idle
  grade := .urgent
  again := false
  current := 0
  silent := 0
  holdOff := none
  due := none
  waiting := false
  sending := false

/-- R22, R43. -/
def SpurPort.powerOn : SpurPort where
  pres := false
  attn := false
  ocLow := false
  state := .empty
  fault := .noFault
  entered := 0
  descriptor := none
  granted := 0
  tries := 0
  attachDue := none
  describeWaiting := false
  slots := Vector.replicate 4 none
  setsWaiting := []
  poll := Poll.powerOn
  drops := Vector.replicate 16 Drop.powerOn
  confirmMs := 500
  retryLimit := 2
  tx := none

/-- R44: disabled, result class BULK, every other field 0. -/
def Filter.powerOn : Filter where
  enabled := false
  spurs := 0
  offset := 0
  mask := 0
  crc := 0
  last := 0
  cascade := false
  cls := .bulk
  subtype := 0
  level := 0
  dst := ⟨0, 0⟩
  tag := ⟨0, 0⟩
  value1 := ⟨0, 0⟩
  value2 := ⟨0, 0⟩
  page := some 0
  reply := .noReply

/-- R44. -/
def RuleSet.powerOn : RuleSet where
  filters := Vector.replicate 8 Filter.powerOn
  floors := Vector.replicate 8 0
  defaults := Vector.replicate 6 { present := false, addr := ⟨0, 0⟩ }

/-- R44. -/
def Page.powerOn : Page where
  used := 0
  hasSum := false
  sumOffset := 0
  partialSum := 0
  slots := Vector.replicate 4 ⟨0, 0, 0⟩
  bytes := Vector.replicate 64 0

/-- R44. -/
def Classifier.powerOn : Classifier where
  windows := Vector.replicate 6 ⟨0, 0⟩
  direction := Vector.replicate 64 .east
  setA := RuleSet.powerOn
  setB := RuleSet.powerOn
  live := .a
  generation := 0
  pages := Vector.replicate 8 Page.powerOn
  waiting := []

/-- R69. -/
def Buffer.powerOn : Buffer where
  banks := Vector.replicate 4
    { state := .inService, retirePending := false, cause := .noCause, corrected := 0, uncorrectable := 0, scrubDue := none }
  free := List.range 256
  held := []
  bad := []
  reserve := 16

/-- R80. -/
def Queue.powerOn : Queue where
  frames := []
  pushOuts := 0
  refusals := 0
  stale := 0

/-- R85. -/
def ChannelCfg.powerOn : ChannelCfg where
  enabled := false
  source := ⟨0, 0⟩
  gas := .ch4
  zone := 0
  sense := .high
  zeroOffset := 0
  gain := 4096
  fullScale := 16383
  shift := 0
  warn := 16382
  trip := 16383
  hysteresis := 0
  riseWindow := 0
  riseLimit := 65535
  staleLimit := 30
  failTrips := true
  latch := false
  overTrips := true

/-- R85, R89. -/
def Channel.powerOn : Channel where
  cfg := ChannelCfg.powerOn
  state := .starting
  computed := .starting
  causes := ⟨false, false, false, false⟩
  flags := ⟨false, false, false⟩
  latched := false
  lastRaw := 0
  calibrated := 0
  smoothed := 0
  lastValid := 0
  markValue := 0
  markTime := 0
  inhibitEnd := 0

/-- R105. -/
def Zone.powerOn : Zone where
  enabled := false
  monitored := false
  policy := .close
  force := false
  evaluated := false
  localState := .clear
  combined := .clear
  reporters := []
  lastSent := 0
  gasWarn := false

/-- R114. -/
def Relay.powerOn : Relay where
  func := .noFunction
  severity := 15
  mask := 0
  energised := false
  closed := false
  mismatchDue := none
  fault := false

/-- R140. -/
def Segment.powerOn : Segment where
  id := 0
  zone := 0
  capacity := 1
  lease := 120
  waitLimit := 300
  autoReopen := false
  state := .closed
  commandClose := false
  occupants := []
  waiting := []

/-- R138, R139, R140. -/
def HaulControl.powerOn : HaulControl where
  roster := Vector.replicate 64 { truck := 0, enabled := false, rated := false }
  trucks := []
  segments := Vector.replicate 16 Segment.powerOn

/-- R157. -/
def AlarmControl.powerOn : AlarmControl where
  alarms := []
  serial := 0
  born := 0
  actions := Vector.replicate 16 { mode := .announce, severity := 8, mask := 0, scope := .sourceDrop }
  lockdown := Vector.replicate 31 0
  island := true
  zoneCopy := Vector.replicate 31 .clear
  severityFlags := Vector.replicate 15 false
  gapDue := none
  fastDue := 10000
  slowDue := 60000

/-- R178. -/
def NodeTable.powerOn : NodeTable where
  ring := 0
  node := 0
  station1 := ⟨0, 0⟩
  station2 := ⟨0, 0⟩
  budget := 24
  correctedLimit := 1000
  airFloor := 400
  enables := 0
  queueLimits := Vector.replicate 9 48
  voice := #v[24, 24, 8, 8, 8, 8, 8, 8]

/-- R180, R184. -/
def Manager.powerOn : Manager where
  table := NodeTable.powerOn
  events := 0
  owed := []
  restarting := false

/-- R181, R182: the load has begun. The memory is a part outside the node; a blank one is taken as fitted. -/
def Loader.powerOn : Loader where
  load := .loading
  position := 0
  applied := 0
  stopTable := 0
  stopIndex := 0
  stopCause := .noCause
  saving := none
  lastSave := .noResult
  memory := some [0xFF]

/-- The node right after power-on reset: every block at its power-on values, the configuration load begun (R182), all
inputs low and no command waiting. -/
def State.reset : State where
  time := 0
  tpe := TrunkPort.powerOn
  tpw := TrunkPort.powerOn
  broadcasts := []
  spurs := Vector.replicate 6 SpurPort.powerOn
  cls := Classifier.powerOn
  fbf := Buffer.powerOn
  egs := Vector.replicate 9 Queue.powerOn
  channels := Vector.replicate 48 Channel.powerOn
  zones := Vector.replicate 31 Zone.powerOn
  relays := Vector.replicate 4 Relay.powerOn
  csw := { circuits := [], nextId := 0 }
  hlc := HaulControl.powerOn
  alc := AlarmControl.powerOn
  mge := Manager.powerOn
  cfl := Loader.powerOn
  pending := []

end Sys2Proof.Machine
end

