-- ==== Sys2Proof/Machine/Operands.lean ====
section
/-! DEFINITION. The forms of operands: the codes of enumerated fields, the check algorithms of R188, the drift frame of section
11.1, the line frames of section 11.3, and the 16-bit fields of table entries (section 11.5). -/

namespace Sys2Proof.Machine

/-! ## Numbers and bytes -/

/-- The byte that carries the low 8 bits of a number. -/
def byte (n : Nat) : Byte := BitVec.ofNat 8 n

/-- A 16-bit number, most significant byte first (chapter 11). -/
def bytes16 (n : Nat) : List Byte := [byte (n / 256), byte n]

/-- A 32-bit number, most significant byte first. -/
def bytes32 (n : Nat) : List Byte := bytes16 (n / 65536) ++ bytes16 (n % 65536)

/-- Byte `i` of a run of bytes as a number; 0 past its end. -/
def byteAt (bs : List Byte) (i : Nat) : Nat := (bs.getD i 0).toNat

/-- The 16-bit number at bytes `i` and `i + 1`. -/
def halfAt (bs : List Byte) (i : Nat) : Nat := byteAt bs i * 256 + byteAt bs (i + 1)

/-- A flag as a field: 0 or 1. -/
def flag (b : Bool) : Nat := if b then 1 else 0

/-- The two fields of a 32-bit value, high word first (section 11.5). -/
def wide (n : Nat) : List Nat := [n / 65536, n % 65536]

/-- The two fields of a time base value. -/
def wideTime (t : Time) : List Nat := wide t.toNat

/-- Fields as bytes, each high byte first. -/
def fieldBytes (fs : List Nat) : List Byte := fs.flatMap bytes16

/-- The whole fields that a run of bytes carries. -/
def fieldsOf : List Byte → List Nat
  | hi :: lo :: rest => (hi.toNat * 256 + lo.toNat) :: fieldsOf rest
  | _ => []

/-- Field `n` of an entry, counted from 1 as the manual counts them; 0 past the entry's end. -/
def fieldAt (fs : List Nat) (n : Nat) : Nat := fs.getD (n - 1) 0

/-- An address as a field: the node in the high byte, the station in the low byte (section 11.5). -/
def Addr.code (a : Addr) : Nat := a.node * 256 + a.station

/-- The address a field carries. -/
def Addr.ofCode (n : Nat) : Addr := ⟨n / 256, n % 256⟩

/-- Saturating increase of a 16-bit counter (R69, R80). -/
def countUp (n : Nat) : Nat := if n < 65535 then n + 1 else 65535

/-! ## Enumerated fields

An enumerated field carries the position of its value in the list the manual gives for it (section 11.5). Each type lists its
values in that order, so the code of a value is its constructor's position. -/

def FrameClass.code (c : FrameClass) : Nat := c.ctorIdx
/-- R185: codes 8 to 15 are no class. -/
def FrameClass.ofCode (n : Nat) : Option FrameClass :=
  [FrameClass.ident, .mgmt, .alarm, .air, .call, .haul, .bulk, .line][n]?

def ReplyKind.ofCode (n : Nat) : Option ReplyKind := [ReplyKind.noReply, .echo, .haulAnswer][n]?
def DropKind.ofCode (n : Nat) : Option DropKind := [DropKind.native, .foreign, .attention][n]?
def Gas.ofCode (n : Nat) : Option Gas := [Gas.ch4, .co, .o2, .co2, .airflow][n]?
def Sense.ofCode (n : Nat) : Option Sense := [Sense.high, .low][n]?
def HaulPolicy.ofCode (n : Nat) : Option HaulPolicy := [HaulPolicy.admitAll, .admitRated, .close][n]?
def RelayFunc.ofCode (n : Nat) : Option RelayFunc :=
  [RelayFunc.noFunction, .zonePermit, .islandLamp, .severityAtLeast][n]?
def Precedence.ofCode (n : Nat) : Option Precedence := [Precedence.normal, .priority, .zone, .emergency][n]?
def ActionMode.ofCode (n : Nat) : Option ActionMode :=
  [ActionMode.announce, .announceLocal, .announceTrip, .lockdown][n]?
def Scope.ofCode (n : Nat) : Option Scope := [Scope.sourceDrop, .zone, .all][n]?
def TPort.ofCode (n : Nat) : Option TPort := [TPort.east, .west][n]?
def Direction.ofCode (n : Nat) : Option Direction := [Direction.inbye, .outbye][n]?

/-- R158: alarm kinds are numbered from 1. -/
def AlarmKind.code (k : AlarmKind) : Nat := k.ctorIdx + 1

/-- R180: the event kind's bit. -/
def EventKind.bit (e : EventKind) : Nat := e.ctorIdx

/-- The subtypes R185 defines for a class. -/
def FrameClass.subtypes : FrameClass → Nat
  | .ident => 1
  | .mgmt => 3
  | .alarm => 1
  | .air => 2
  | .call => 5
  | .haul => 4
  | .bulk => 1
  | .line => 5

/-! ## Check algorithms (R188) -/

/-- One of the eight shifts of R188. -/
def crcBit (c : Half) : Half := if c.getLsbD 15 then (c <<< 1) ^^^ 0x1021#16 else c <<< 1

/-- R188: one byte taken into the CRC register. -/
def crcByte (c : Half) (b : Byte) : Half :=
  let c := c ^^^ BitVec.ofNat 16 (b.toNat * 256)
  crcBit (crcBit (crcBit (crcBit (crcBit (crcBit (crcBit (crcBit c)))))))

/-- The CRC-16 carried on from a running value. -/
def crcFrom (c : Half) (bs : List Byte) : Half := bs.foldl crcByte c

/-- R188: the CRC-16 of a run of bytes. -/
def crc16 (bs : List Byte) : Half := crcFrom 0xFFFF bs

/-- One addition of the ones'-complement sum, folded (section 11.4). -/
def onesAdd (a b : Nat) : Nat := if a + b > 0xFFFF then a + b - 0x10000 + 1 else a + b

/-- R63: the ones'-complement sum of bytes taken as 16-bit words, an odd last byte's word with a low byte of 0. -/
def onesSum : Nat → List Byte → Nat
  | acc, hi :: lo :: rest => onesSum (onesAdd acc (hi.toNat * 256 + lo.toNat)) rest
  | acc, [hi] => onesAdd acc (hi.toNat * 256)
  | acc, [] => acc

/-! ## The drift frame (section 11.1) -/

/-- The ten header bytes. -/
def Frame.header (f : Frame) : List Byte :=
  [byte (f.cls.code * 16 + f.level), byte (f.hop * 2 + flag f.wrapped), byte f.dst.node, byte f.dst.station,
    byte f.src.node, byte f.src.station, byte (f.zone * 8 + f.subtype), byte f.payload.length] ++ bytes16 f.tag

/-- The frame as it leaves a port, its CRC written over the header as it stands (R18). -/
def Frame.encode (f : Frame) : List Byte :=
  let body := f.header ++ f.payload
  body ++ bytes16 (crc16 body).toNat

/-- Whether received bytes have a correct CRC (R188): the last two bytes against the CRC of those before them. -/
def crcGood (bs : List Byte) : Bool :=
  12 ≤ bs.length && bs.drop (bs.length - 2) == bytes16 (crc16 (bs.take (bs.length - 2))).toNat

/-- The drift frame that received bytes carry, when the checks of R12 that are common to all ports pass: the CRC, the class
code, and the payload length field against the number of bytes. -/
def Frame.parse (bs : List Byte) : Option Frame :=
  match FrameClass.ofCode (byteAt bs 0 / 16) with
  | none => none
  | some cls =>
    if crcGood bs && byteAt bs 7 ≤ 240 && bs.length == 12 + byteAt bs 7 then
      some {
        cls
        level := byteAt bs 0 % 16
        hop := byteAt bs 1 / 2
        wrapped := byteAt bs 1 % 2 == 1
        dst := ⟨byteAt bs 2, byteAt bs 3⟩
        src := ⟨byteAt bs 4, byteAt bs 5⟩
        zone := byteAt bs 6 / 8
        subtype := byteAt bs 6 % 8
        tag := halfAt bs 8
        payload := (bs.drop 10).take (byteAt bs 7) }
    else none

/-- The fields of a frame lie in the ranges of section 11.1. -/
def Frame.wf (f : Frame) : Bool :=
  f.level < 16 && f.hop < 128 && f.dst.node < 256 && f.dst.station < 256 && f.src.node < 256 && f.src.station < 256
    && f.zone < 32 && f.subtype < 8 && f.tag < 65536 && f.payload.length ≤ 240

/-- A frame the node builds, with R185's values for the header fields no rule names. -/
def Frame.built (cls : FrameClass) (subtype level : Nat) (dst src : Addr) (payload : List Byte) : Frame where
  cls
  level
  hop := 127
  wrapped := false
  dst
  src
  zone := 0
  subtype
  tag := 0
  payload

/-- HELLO: class IDENT, subtype 0. -/
def Frame.isHello (f : Frame) : Bool := f.cls == .ident && f.subtype == 0

/-- CALL VOICE, the frames R82 judges by age. -/
def Frame.isVoice (f : Frame) : Bool := f.cls == .call && f.subtype == 4

/-- The HELLO's payload fails R12 (fewer than 4 bytes, or a node number above 62). -/
def Frame.badHello (f : Frame) : Bool := f.payload.length < 4 || 62 < byteAt f.payload 2

/-- R12: the checks on a frame received on a trunk port, but for the state of the port. -/
def Frame.trunkAccepted (f : Frame) : Bool :=
  f.cls != .line && 1 ≤ f.dst.node && f.dst.node ≤ 63
    && !(f.cls == .ident && f.subtype != 0) && !(f.isHello && f.badHello)

/-- R31: the checks on a native frame received on a spur port. -/
def Frame.spurAccepted (f : Frame) : Bool :=
  f.cls == .line || (f.dst.node ≤ 63 && f.cls != .ident)

/-! ## Line frames (section 11.3) -/

/-- What a drop address byte names. -/
inductive LineAddr where
  | drop (d : Fin 16)
  | head
  | all
  | noTarget
  deriving DecidableEq, Repr

/-- Section 11.3's table of drop addresses. -/
def LineAddr.ofByte (b : Byte) : LineAddr :=
  if h : b.toNat < 16 then .drop ⟨b.toNat, h⟩
  else if b.toNat = 0x80 then .head
  else if b.toNat = 0xFF then .all
  else .noTarget

/-- The drop address byte of a frame directed to a spur (R32). -/
def Target.byte : Target → Byte
  | .drop d => Machine.byte d.val
  | .allDrops => 0xFF

/-- R187: a LINE frame that a spur port builds. -/
def Frame.line (subtype : Nat) (payload : List Byte) : Frame :=
  Frame.built .line subtype 15 ⟨0, 0⟩ ⟨0, 0⟩ payload

/-- R187: the spur frame of each kind a transmitter sends: drop address, then body (R32). -/
def SpurTx.bytes : SpurTx → List Byte
  | .describe => 0x80 :: (Frame.line 0 []).encode
  | .attnQuery g => 0x80 :: (Frame.line 2 [Machine.byte g.ctorIdx]).encode
  | .reportRequest g d => Machine.byte d.val :: (Frame.line 3 [Machine.byte g.ctorIdx]).encode
  | .outputSet _ d m => Machine.byte d.val :: (Frame.line 4 [Machine.byte m.toNat]).encode
  | .stored f => f.target.byte ::
      match f.body with
      | .drift d => d.encode
      | .raw bs => bs

/-- The bytes that a trunk transmitter puts on the ring. -/
def TrunkTx.bytes : TrunkTx → List Byte
  | .hello f => f.encode
  | .stored f =>
      match f.body with
      | .drift d => d.encode
      | .raw bs => bs

/-! ## Stored frames -/

/-- R70: the number of bytes a frame stands for in the buffer. -/
def Body.size : Body → Nat
  | .drift f => 12 + f.payload.length
  | .raw bs => bs.length

/-- R70: blocks for a stored size. -/
def blocksFor (size : Nat) : Nat := if size ≤ 128 then 1 else 2

/-- R71: foreign bytes and reply pages are tested as BULK. -/
def Body.cls : Body → FrameClass
  | .drift f => f.cls
  | .raw _ => .bulk

/-- The drift frame of a body, if it is one. -/
def Body.frame? : Body → Option Frame
  | .drift f => some f
  | .raw _ => none

/-- A frame not yet stored: no blocks, no queue entry time. -/
def Stored.make (body : Body) (level : Nat) (origin : Origin) : Stored where
  body
  level
  blocks := []
  origin
  arrival := none
  ctx := none
  target := .allDrops
  entry := none

/-- Whether a stored frame is CALL VOICE. -/
def Stored.isVoice (f : Stored) : Bool :=
  match f.body with
  | .drift d => d.isVoice
  | .raw _ => false

end Sys2Proof.Machine
end

