-- ==== Sys2Proof/Machine/Ops.lean ====
section
/-! DEFINITION. The named operations over the node's parts that every chapter uses: one entry of a table read or replaced, the time
base and its timers, and the lookups shared between blocks. -/

namespace Sys2Proof.Machine

/-! ## Parts of the node -/

/-- The record of a trunk port. -/
def State.trunk (s : State) : TPort → TrunkPort
  | .east => s.tpe
  | .west => s.tpw

/-- The record of a trunk port replaced. -/
def State.setTrunk (s : State) (p : TPort) (t : TrunkPort) : State :=
  match p with
  | .east => { s with tpe := t }
  | .west => { s with tpw := t }

/-- The record of a spur port. -/
def State.spur (s : State) (n : Fin 6) : SpurPort := s.spurs[n]

/-- The record of a spur port replaced. -/
def State.setSpur (s : State) (n : Fin 6) (p : SpurPort) : State := { s with spurs := s.spurs.set n p }

/-- The record of a drop replaced. -/
def SpurPort.setDrop (p : SpurPort) (d : Fin 16) (r : Drop) : SpurPort := { p with drops := p.drops.set d r }

/-- An output slot replaced. -/
def SpurPort.setSlot (p : SpurPort) (k : Fin 4) (x : Option Slot) : SpurPort := { p with slots := p.slots.set k x }

/-- An egress queue. -/
def State.queue (s : State) (q : Fin 9) : Queue := s.egs[q]

/-- An egress queue replaced. -/
def State.setQueue (s : State) (q : Fin 9) (x : Queue) : State := { s with egs := s.egs.set q x }

/-- A bank record. -/
def State.bank (s : State) (b : Fin 4) : Bank := s.fbf.banks[b]

/-- FBF replaced. -/
def State.setFbf (s : State) (b : Buffer) : State := { s with fbf := b }

/-- A bank record replaced. -/
def State.setBank (s : State) (b : Fin 4) (x : Bank) : State :=
  s.setFbf { s.fbf with banks := s.fbf.banks.set b x }

/-- A gas channel. -/
def State.channel (s : State) (c : Fin 48) : Channel := s.channels[c]

/-- A gas channel replaced. -/
def State.setChannel (s : State) (c : Fin 48) (x : Channel) : State := { s with channels := s.channels.set c x }

/-- A zone record, by its index (the zone's number less 1). -/
def State.zone (s : State) (z : Fin 31) : Zone := s.zones[z]

/-- A zone record replaced. -/
def State.setZone (s : State) (z : Fin 31) (x : Zone) : State := { s with zones := s.zones.set z x }

/-- A relay record. -/
def State.relay (s : State) (r : Fin 4) : Relay := s.relays[r]

/-- A relay record replaced. -/
def State.setRelay (s : State) (r : Fin 4) (x : Relay) : State := { s with relays := s.relays.set r x }

/-- A haulage segment. -/
def State.segment (s : State) (g : Fin 16) : Segment := s.hlc.segments[g]

/-- HLC replaced. -/
def State.setHlc (s : State) (h : HaulControl) : State := { s with hlc := h }

/-- A haulage segment replaced. -/
def State.setSegment (s : State) (g : Fin 16) (x : Segment) : State :=
  s.setHlc { s.hlc with segments := s.hlc.segments.set g x }

/-- The truck table replaced. -/
def State.setTrucks (s : State) (ts : List Truck) : State := s.setHlc { s.hlc with trucks := ts }

/-- CLS replaced. -/
def State.setCls (s : State) (c : Classifier) : State := { s with cls := c }

/-- CSW replaced. -/
def State.setCsw (s : State) (c : CallSwitch) : State := { s with csw := c }

/-- ALC replaced. -/
def State.setAlc (s : State) (a : AlarmControl) : State := { s with alc := a }

/-- MGE replaced. -/
def State.setMge (s : State) (m : Manager) : State := { s with mge := m }

/-- CFL replaced. -/
def State.setCfl (s : State) (c : Loader) : State := { s with cfl := c }

/-- The broadcast memory replaced. -/
def State.setBroadcasts (s : State) (l : List BroadcastEntry) : State := { s with broadcasts := l }

/-- The commands that wait replaced. -/
def State.setPending (s : State) (l : List Instr) : State := { s with pending := l }

/-- This node's number (NODE table). -/
def State.node (s : State) : Nat := s.mge.table.node

/-- The index of a zone number, none for 0 (no zone). -/
def zoneIx (z : Nat) : Option (Fin 31) :=
  if h : 1 ≤ z ∧ z ≤ 31 then some ⟨z - 1, by omega⟩ else none

/-- The zone of a zone number. -/
def State.zone? (s : State) (z : Nat) : Option Zone := (zoneIx z).map s.zone

/-- `n` as an index below `k`. -/
def fin? (k n : Nat) : Option (Fin k) := if h : n < k then some ⟨n, h⟩ else none

/-- All `Fin n`, ascending. -/
def allFin (n : Nat) : List (Fin n) := List.finRange n

/-! ## The time base (R181) and its timers -/

/-- The time base value `ms` milliseconds from now. -/
def State.after (s : State) (ms : Nat) : Time := s.time + BitVec.ofNat 32 ms

/-- The milliseconds that have passed since a time base value. -/
def State.since (s : State) (t : Time) : Nat := (s.time - t).toNat

/-- The time base has reached a value that was set less than half its range ahead. -/
def State.reached (s : State) (t : Time) : Bool := (s.time - t).toNat < 2147483648

/-- A running timer has expired. -/
def State.expired (s : State) : Option Time → Bool
  | none => false
  | some t => s.reached t

/-! ## The trunk ring -/

/-- A trunk port is UP. -/
def State.up (s : State) (p : TPort) : Bool := (s.trunk p).state == .up

/-- The wrap flag of R4. -/
def State.wrapFlag (s : State) : Bool := s.up .east != s.up .west

/-- The island flag of R4: neither trunk port is UP. -/
def State.islandFlag (s : State) : Bool := !s.up .east && !s.up .west

/-- The egress queue of a trunk port (R80). -/
def trunkQueue : TPort → Fin 9
  | .east => 0
  | .west => 1

/-- The egress queue of a spur port. -/
def spurQueue (n : Fin 6) : Fin 9 := ⟨n.val + 2, by omega⟩

/-- The LOCAL queue. -/
def localQueue : Fin 9 := 8

/-- The egress queue of a port. -/
def portQueue : PortId → Fin 9
  | .trunk p => trunkQueue p
  | .spur n => spurQueue n

/-! ## Stations and drops -/

/-- R45: the station of drop `d` under a window, when it has one. -/
def Window.station? (w : Window) (d : Fin 16) : Option Nat :=
  if w.base ≠ 0 ∧ w.base + d.val ≤ w.limit then some (w.base + d.val) else none

/-- The station of a drop of a spur (R45). -/
def State.station? (s : State) (n : Fin 6) (d : Fin 16) : Option Nat := s.cls.windows[n].station? d

/-- R46: the spur and drop of a station 1 to 239. -/
def State.dropOfStation? (s : State) (st : Nat) : Option (Fin 6 × Fin 16) :=
  (allFin 6).findSome? fun n =>
    let w := s.cls.windows[n]
    if w.base ≠ 0 ∧ w.base ≤ st ∧ st ≤ w.limit then (fin? 16 (st - w.base)).map fun d => (n, d) else none

/-- R23: the drop id. -/
def dropId (n : Fin 6) (d : Fin 16) : Nat := 256 + 16 * n.val + d.val

/-- A spur port is ACTIVE. -/
def State.active (s : State) (n : Fin 6) : Bool := (s.spur n).state == .active

/-- R23: a reconciled drop. -/
def SpurPort.reconciled (p : SpurPort) (d : Fin 16) : Bool :=
  p.state == .active && p.drops[d].present && p.drops[d].kind != .foreign

/-- The live rule set (R59). -/
def Classifier.liveSet (c : Classifier) : RuleSet :=
  match c.live with
  | .a => c.setA
  | .b => c.setB

end Sys2Proof.Machine
end

