-- ==== Sys2Proof/Machine/Flags.lean ====
section
/-! DEFINITION. The event status word (R180): raising a cell. -/

namespace Sys2Proof.Machine

/-- The cell of an event kind is set. -/
def Manager.has (m : Manager) (e : EventKind) : Bool := m.events.getLsbD e.bit

/-- R180: raising an event kind sets its cell; a cell that was clear and is enabled owes the control stations a NOTICE, which
`settle` sends at the end of the step (notes/assumptions/8.md). -/
def State.raise (s : State) (e : EventKind) : State :=
  let m := s.mge
  let cell : Half := BitVec.ofNat 16 (2 ^ e.bit)
  s.setMge { m with
    events := m.events ||| cell
    owed := if !m.has e && m.table.enables.getLsbD e.bit then m.owed ++ [e] else m.owed }

end Sys2Proof.Machine
end

