-- ==== Sys2Proof/Machine/Buffer.lean ====
section
/-! DEFINITION. The frame buffer's pool (R69 to R73, R79): admission, blocks taken and freed. Reading a frame, and what reads do to
banks, are in Bank.lean. -/

namespace Sys2Proof.Machine

/-- The bank of a block (section 4.1); block numbers run to 255. -/
def bankOf (b : Nat) : Fin 4 := ⟨b / 64 % 4, Nat.mod_lt _ (by decide)⟩

/-- A class that may draw on the alarm reserve (R71). -/
def FrameClass.reserved (c : FrameClass) : Bool := c == .ident || c == .alarm || c == .mgmt

/-- R71: whether FBF accepts a frame of this class that needs `n` blocks. -/
def Buffer.admits (b : Buffer) (c : FrameClass) (n : Nat) : Bool :=
  if c.reserved then n ≤ b.free.length else b.reserve + n ≤ b.free.length

/-- R70: `n` blocks leave the head of the pool; a frame's bytes are written into them with fresh check bits. -/
def Buffer.take (b : Buffer) (n : Nat) : List Nat × Buffer :=
  let got := b.free.take n
  (got, { b with
    free := b.free.drop n
    held := b.held ++ got
    bad := b.bad.filter fun w => !got.contains w.block })

/-- R71: offer a frame of a class; its blocks, or a refusal with QUEUE_DISCARD. -/
def State.offer (s : State) (c : FrameClass) (n : Nat) : Option (List Nat) × State :=
  if s.fbf.admits c n then
    let (got, b) := s.fbf.take n
    (some got, s.setFbf b)
  else (none, s.raise .queueDiscard)

/-- A stored frame offered whole (R70, R71): the frame with its blocks, when it is accepted. -/
def State.store (s : State) (f : Stored) : Option Stored × State :=
  match s.offer f.body.cls (blocksFor f.body.size) with
  | (some got, s) => (some { f with blocks := got }, s)
  | (none, s) => (none, s)

/-- R79: the usable blocks. -/
def Buffer.usable (b : Buffer) : Nat := 64 * b.banks.toList.countP (·.state != .retired)

/-- R79: the alarm reserve as it should stand. -/
def Buffer.reserveNow (b : Buffer) : Nat := min 16 (b.usable / 4)

/-- R79: the reserve recomputed. -/
def State.reserveRecompute (s : State) : State := s.setFbf { s.fbf with reserve := s.fbf.reserveNow }

/-- A bank holds no block of any frame. -/
def Buffer.bankEmpty (b : Buffer) (k : Fin 4) : Bool := !b.held.any fun x => bankOf x == k

/-- R76: a RETIRING bank that holds no block of any frame goes to RETIRED. -/
def State.retiredTest (s : State) (k : Fin 4) : State :=
  if (s.bank k).state == .retiring && s.fbf.bankEmpty k then
    ((s.setBank k { s.bank k with state := .retired }).raise .bankChange).reserveRecompute
  else s

/-- R73: a frame frees its blocks. The rule gives no order for the two blocks of one frame: THE MODEL'S CHOICE
(notes/assumptions/37.md): the order in which the frame took them. -/
def State.free (s : State) (blocks : List Nat) : State :=
  let b := s.fbf
  let s := s.setFbf { b with
    held := b.held.filter fun x => !blocks.contains x
    free := b.free ++ blocks.filter fun x => b.banks[bankOf x].state == .inService }
  (allFin 4).foldl State.retiredTest s

end Sys2Proof.Machine
end

