-- ==== Sys2Proof/Machine/Egress.lean ====
section
/-! DEFINITION. The egress queues (R80, R81). -/

namespace Sys2Proof.Machine

/-- R80: the blocks of the frames on a queue. -/
def occupancy (fs : List Stored) : Nat := (fs.map fun f => f.blocks.length).sum

/-- R80: a frame joins a queue after the frames of its level and above. -/
def insertByLevel (f : Stored) : List Stored → List Stored
  | [] => [f]
  | g :: rest => if f.level ≤ g.level then g :: insertByLevel f rest else f :: g :: rest

/-- R81: push-outs, from the tail of the queue (the lowest level, and in it the frame placed last), until `room` blocks or fewer
remain. The queue is given tail first; answers the frames left (tail first) and those pushed out, in order. -/
def pushOut (room level : Nat) : List Stored → List Stored × List Stored
  | [] => ([], [])
  | f :: rest =>
    if occupancy (f :: rest) ≤ room || level ≤ f.level then (f :: rest, [])
    else
      let (kept, out) := pushOut room level rest
      (kept, f :: out)

/-- A pushed-out frame is discarded: it frees its blocks, and QUEUE_DISCARD is raised. -/
def State.discardPushed (s : State) (f : Stored) : State := (s.free f.blocks).raise .queueDiscard

/-- R81: place a frame on a queue. A frame that does not fit is refused: it keeps its blocks for the caller to free. -/
def State.place (s : State) (q : Fin 9) (f : Stored) : Bool × State :=
  let limit := s.mge.table.queueLimits[q]
  let x := s.queue q
  let n := f.blocks.length
  let below := occupancy (x.frames.filter fun g => g.level < f.level)
  if limit < occupancy x.frames - below + n ∧ limit < occupancy x.frames + n then
    (false, (s.setQueue q { x with refusals := countUp x.refusals }).raise .queueDiscard)
  else
    let (kept, out) := pushOut (limit - n) f.level x.frames.reverse
    let placed := { f with entry := some (f.entry.getD s.time) }
    let s := s.setQueue q { x with
      frames := insertByLevel placed kept.reverse
      pushOuts := out.foldl (fun c _ => countUp c) x.pushOuts }
    (true, out.foldl State.discardPushed s)

/-- R81, for a caller that gives the frame up when it does not fit. -/
def State.enqueue (s : State) (q : Fin 9) (f : Stored) : State :=
  match s.place q f with
  | (true, s) => s
  | (false, s) => s.free f.blocks

end Sys2Proof.Machine
end

