-- ==== Sys2Proof/Machine/Route.lean ====
section
/-! DEFINITION. The ways a frame goes on from CLS and from the internal blocks: to a spur (R32), to a station of this node (R46,
R47), onto the trunk (R20, R21), and as a reply page (R64 to R66); and the end of a step, where owed notices go out (R180).

An operation answers whether the send stands; `false` is a failed send that its originating block is told of (R21, R32, R71).
A frame without blocks is one that has yet to be offered to FBF. -/

namespace Sys2Proof.Machine

/-- R32: whether a spur port takes a frame for a target. -/
def SpurPort.takes (p : SpurPort) : Target → Bool
  | .drop d => p.state == .active && p.drops[d].present
  | .allDrops => p.state == .active

/-- R32: direct a frame to a spur port. -/
def State.spurTake (s : State) (n : Fin 6) (t : Target) (f : Stored) : Bool × State :=
  if (s.spur n).takes t then (true, s.enqueue (spurQueue n) { f with target := t, ctx := none })
  else (false, (s.free f.blocks).raise .noRoute)

/-- R72: a copy that has no blocks is offered; one that keeps the stored blocks is not. -/
def State.withBlocks (s : State) (f : Stored) : Option Stored × State :=
  if f.blocks.isEmpty then s.store f else (some f, s)

/-- The class an internal endpoint serves (R46). -/
def stationClass : Nat → Option FrameClass
  | 0 => some .mgmt
  | 240 => some .alarm
  | 241 => some .air
  | 242 => some .haul
  | 243 => some .call
  | _ => none

/-- R47: the spurs that a frame for station 255 is copied to. -/
def State.copySpurs (s : State) (arrival : Option PortId) : List (Fin 6) :=
  (allFin 6).filter fun n => s.active n && s.cls.windows[n].base != 0 && arrival != some (.spur n)

/-- R47, R72: copies to the spurs, the first keeping the blocks at hand. -/
def State.copyTo (s : State) (f : Stored) : List (Fin 6) → State
  | [] => s.free f.blocks
  | n :: rest =>
    match s.withBlocks f with
    | (some g, s) => (s.spurTake n .allDrops g).2.copyTo { f with blocks := [] } rest
    | (none, s) => s.copyTo f rest

/-- A stored frame discarded with NO_ROUTE. -/
def State.noRoute (s : State) (f : Stored) : State := (s.free f.blocks).raise .noRoute

/-- R46: a frame delivered on this node goes by its destination station. Only a refusal by a spur port is a failed send. R50, R72 and R32
do not say when a copy that has no blocks (a node-63 frame whose trunk copy keeps them) is offered to FBF. THE MODEL'S CHOICE
(notes/assumptions/17.md): before its queue or its spur port is asked, so that FBF's refusal (QUEUE_DISCARD) comes where the port would
refuse too (NO_ROUTE). -/
def State.deliver (s : State) (f : Stored) (d : Frame) : Bool × State :=
  if d.dst.station = 255 then (true, s.copyTo f (s.copySpurs f.arrival))
  else match stationClass d.dst.station with
    | some c =>
      if d.cls = c then
        match s.withBlocks f with
        | (some g, s) => (true, s.enqueue localQueue g)
        | (none, s) => (true, s)
      else (true, s.noRoute f)
    | none =>
      match s.dropOfStation? d.dst.station with
      | some (n, drop) =>
        match s.withBlocks f with
        | (some g, s) => s.spurTake n (.drop drop) g
        | (none, s) => (true, s)
      | none => (true, s.noRoute f)

/-- R20: the port that a frame for destination node `n` enters the trunk by, if a trunk port is UP. -/
def State.entryPort (s : State) (n : Nat) : Option TPort :=
  let first := match fin? 64 n with
    | some i => if n = 0 then Config.strayPort n else s.cls.direction[i]
    | none => Config.strayPort n
  if s.up first then some first else if s.up first.other then some first.other else none

/-- R20: a stored frame enters the trunk here. `none`: neither port is UP. `some false`: the queue refused it. The caller keeps
the blocks unless the answer is `some true`. -/
def State.trunkEnter (s : State) (f : Stored) (d : Frame) : Option Bool × State :=
  match s.entryPort d.dst.node with
  | none => (none, s)
  | some p =>
    let d := { d with hop := 127, wrapped := false, src := { d.src with node := s.node } }
    let (ok, s) := s.place (trunkQueue p) { f with body := .drift d, ctx := none }
    (some ok, s)

/-- A frame that an internal block originates: offered to FBF (R71), then delivered here (R46) or sent onto the trunk (R20,
R21). -/
def State.originate (s : State) (d : Frame) (origin : Origin) : Bool × State :=
  match s.store (.make (.drift d) d.level origin) with
  | (none, s) => (false, s)
  | (some f, s) =>
    if d.dst.node = s.node then s.deliver f d
    else match s.trunkEnter f d with
      | (some true, s) => (true, s)
      | (some false, s) => (true, s.free f.blocks)
      | (none, s) => (false, s.free f.blocks)

/-! ## Reply pages -/

/-- The values a block supplies for a reply (R64). -/
structure PageValues where
  truck : Nat
  decision : Nat
  reason : Nat
  segment : Nat
  lease : Nat
  position : Nat
  tag : Nat
  deriving DecidableEq, Repr

/-- R64: an echo supplies only the tag. -/
def PageValues.echo (tag : Nat) : PageValues := ⟨0, 0, 0, 0, 0, 0, tag⟩

/-- R64: the value of a field kind. -/
def PageValues.value (v : PageValues) (now : Time) : Nat → Nat
  | 0 => v.truck
  | 1 => v.decision
  | 2 => v.reason
  | 3 => v.segment
  | 4 => v.lease
  | 5 => v.position
  | 6 => now.toNat / 1000
  | _ => v.tag

/-- R65 step 2: a slot's bytes written into the reply. -/
def PatchSlot.write (p : PatchSlot) (v : Nat) (bs : List Byte) : List Byte :=
  match p.width with
  | 0 => bs
  | 1 => bs.set p.offset (byte v)
  | _ => (bs.set p.offset (byte (v / 256))).set (p.offset + 1) (byte v)

/-- R65 step 3: the word a slot contributes to the sum. -/
def PatchSlot.word (p : PatchSlot) (v : Nat) : Nat :=
  match p.width with
  | 0 => 0
  | 1 => if p.offset % 2 = 0 then v % 256 * 256 else v % 256
  | _ => v % 65536

/-- R65: the reply built from a page. -/
def Page.build (p : Page) (value : Nat → Nat) : List Byte :=
  let slots := p.slots.toList
  let body := slots.foldl (fun bs x => x.write (value x.kind) bs) (p.bytes.toList.take p.used)
  if p.hasSum then
    let sum := slots.foldl (fun a x => if x.width = 0 then a else onesAdd a (x.word (value x.kind))) p.partialSum
    let check := 0xFFFF - sum
    let check := if check = 0 then 0xFFFF else check
    (body.set p.sumOffset (byte (check / 256))).set (p.sumOffset + 1) (byte check)
  else body

/-- R63: the partial sum that CLS computes for an accepted page. -/
def Page.computeSum (p : Page) : Nat :=
  let cleared := p.slots.toList.foldl (fun bs x => x.write 0 bs) (p.bytes.toList.take p.used)
  let cleared := if p.hasSum then (cleared.set p.sumOffset 0).set (p.sumOffset + 1) 0 else cleared
  onesSum 0 cleared

/-- R65, R66: build a reply from a page and direct it to the drop that was heard. -/
def State.sendPage (s : State) (page : Fin 8) (v : PageValues) (n : Fin 6) (d : Fin 16) (level : Nat) (origin : Origin) :
    Bool × State :=
  let p := s.cls.pages[page]
  if p.used = 0 then (true, s)
  else match s.store (.make (.raw (p.build (v.value s.time))) level origin) with
    | (some f, s) => s.spurTake n (.drop d) f
    | (none, s) => (false, s)

/-! ## Notices (R180) -/

/-- The control station addresses that are not 0 (R175). -/
def State.stations (s : State) : List Addr :=
  [s.mge.table.station1, s.mge.table.station2].filter fun a => a != ⟨0, 0⟩

/-- R180: the NOTICE of an event kind to a control station. -/
def State.notice (s : State) (e : EventKind) (dst : Addr) : Frame :=
  { Frame.built .mgmt 2 9 dst ⟨s.node, 0⟩ (bytes16 s.mge.events.toNat ++ bytes32 s.time.toNat) with tag := e.bit }

/-- R180: one NOTICE to each control station; one that cannot be sent is lost. -/
def State.sendNotices (s : State) (e : EventKind) : State :=
  s.stations.foldl (fun s a => (s.originate (s.notice e a) (.manage false)).2) s

/-- The end of a step: the notices owed are sent in the order of their raises. Sending one may raise a further kind, at most
once each (no cell is cleared meanwhile), so that 16 rounds beyond those owed send them all. -/
def State.settleFor : Nat → State → State
  | 0, s => s
  | k + 1, s =>
    match s.mge.owed with
    | [] => s
    | e :: rest => State.settleFor k (({ s with mge := { s.mge with owed := rest } } : State).sendNotices e)

/-- The end of a step. -/
def State.settle (s : State) : State := State.settleFor (s.mge.owed.length + 16) s

end Sys2Proof.Machine
end

