-- ==== Sys2Proof/Machine/Reconcile.lean ====
section
/-! DEFINITION. Output reconciliation inside a spur port (R34, R37): what a drop record and the four output slots do. The parts that
tell ALC are in Spur.lean. -/

namespace Sys2Proof.Machine

/-- The drop becomes SETTLED; its retry count returns to 0 (R35). -/
def Drop.settled (r : Drop) : Drop := { r with out := .settled, retry := 0, mismatched := false }

/-- The drop becomes SETTLED when desired equals confirmed, PENDING otherwise (R29, R35, R37). -/
def Drop.compare (r : Drop) : Drop :=
  if r.desired = r.confirmed then r.settled else { r with out := .pending }

/-- R37: ALC writes a desired mask; one that leaves the mask unchanged has no effect. -/
def Drop.rewrite (r : Drop) (mask : BitVec 4) : Drop :=
  if mask = r.desired then r
  else
    let r := { r with desired := mask }
    match r.out with
    | .noOutput => r
    | .settled => r.compare
    | .pending => r.compare
    | .inFlight => r
    | .unconfirmed => { r with retry := 0, mismatched := false }.compare

/-- The slot that a drop holds. -/
def SpurPort.slotOf (p : SpurPort) (d : Fin 16) : Option (Fin 4) :=
  (allFin 4).find? fun k => match p.slots[k] with
    | some x => x.drop == d
    | none => false

/-- A slot is freed: its confirm timer stops and a waiting OUTPUT_SET is withdrawn (R33). -/
def SpurPort.freeSlot (p : SpurPort) (k : Fin 4) : SpurPort :=
  { p.setSlot k none with setsWaiting := p.setsWaiting.filter (· != k) }

/-- R34: the lowest-numbered PENDING reconciled drop. -/
def SpurPort.nextPending (p : SpurPort) : Option (Fin 16) :=
  (allFin 16).find? fun d => p.reconciled d && p.drops[d].out == .pending

/-- R34: a drop takes a slot; its OUTPUT_SET waits for the line. -/
def SpurPort.takeSlot (p : SpurPort) (k : Fin 4) (d : Fin 16) : SpurPort :=
  let r := p.drops[d]
  let p := p.setDrop d { r with out := .inFlight, retry := if r.mismatched then r.retry else 0, mismatched := false }
  { p.setSlot k (some { drop := d, confirmDue := none, sent := false, sending := false }) with
    setsWaiting := p.setsWaiting ++ [k] }

/-- R34: every free slot is taken while a reconciled drop is PENDING. Among OUTPUT_SETs whose drops take their slots in one step,
R33's "waited longest" gives no order: THE MODEL'S CHOICE (notes/assumptions/37.md): ascending slot, the order in which they are taken. -/
def SpurPort.takeSlots (p : SpurPort) : SpurPort :=
  (allFin 4).foldl (fun p k =>
    match p.slots[k], p.nextPending with
    | none, some d => p.takeSlot k d
    | _, _ => p) p

/-- R37, R34: new desired masks for all the drops of a port. -/
def SpurPort.rewriteMasks (p : SpurPort) (mask : Fin 16 → BitVec 4) : SpurPort :=
  { p with drops := vmapIdx (fun d (r : Drop) => r.rewrite (mask d)) p.drops }.takeSlots

end Sys2Proof.Machine
end

