-- ==== Sys2Proof/Machine/Haul.lean ====
section
/-! DEFINITION. Haul control's shared operations (chapter 8): answers (R142), grants and promotion (R144, R145), the truck table
(R139, R150), gas closure and reopening (R151, R152). The frames and commands that use them are in Haulage.lean. -/

namespace Sys2Proof.Machine

/-- The truck table entry of a truck (R139). -/
def State.truck? (s : State) (id : Nat) : Option Truck := s.hlc.trucks.find? (·.id == id)

/-- A truck's table entry changed, if it has one. -/
def State.modTruck (s : State) (id : Nat) (f : Truck → Truck) : State :=
  s.setTrucks (s.hlc.trucks.map fun t => if t.id = id then f t else t)

/-- R140: the entry that owns a segment id. -/
def State.segmentOf (s : State) (id : Nat) : Option (Fin 16) :=
  if id = 0 then none else (allFin 16).find? fun g => (s.segment g).id == id

/-- R138: the roster entry of a truck; an entry of id 0 matches none. -/
def State.rosterOf (s : State) (truck : Nat) : Option RosterEntry :=
  if truck = 0 then none else s.hlc.roster.toList.find? (·.truck == truck)

/-- The truck is rated (R138). -/
def State.rated (s : State) (truck : Nat) : Bool := (s.rosterOf truck).any (·.rated)

/-- A zone's combined state as AEV holds it; CLEAR for zone 0. -/
def State.combined (s : State) (z : Nat) : ZState := ((s.zone? z).map (·.combined)).getD .clear

/-- A zone is locked down (R164). -/
def State.lockedDown (s : State) (z : Nat) : Bool := ((zoneIx z).map fun i => s.alc.lockdown[i] != 0).getD false

/-- A zone's haul policy; CLOSE, its power-on value, where there is no zone. -/
def State.policy (s : State) (z : Nat) : HaulPolicy := ((s.zone? z).map (·.policy)).getD .close

/-! ## Answers (R142) -/

/-- R142's decision, reason and numbers. -/
structure Answer where
  decision : Nat
  reason : Nat
  segment : Nat
  lease : Nat
  position : Nat
  deriving DecidableEq, Repr

/-- PROCEED, with the segment's lease. -/
def Answer.proceed (g : Segment) : Answer := ⟨0, 0, g.id, g.lease, 0⟩
/-- WAIT at a place of the list. -/
def Answer.wait (g : Segment) (position : Nat) : Answer := ⟨1, 0, g.id, 0, position⟩
/-- HOLD for a reason. -/
def Answer.hold (segment reason : Nat) : Answer := ⟨2, reason, segment, 0, 0⟩
/-- EXIT, reason GAS. -/
def Answer.exit (segment : Nat) : Answer := ⟨3, 6, segment, 0, 0⟩

/-- R142: EXIT at level 12, every other answer at 10. -/
def Answer.level (a : Answer) : Nat := if a.decision = 3 then 12 else 10

/-- R142: a native ANSWER. -/
def State.answerNative (s : State) (truck : Nat) (dst : Addr) (a : Answer) : State :=
  let d := Frame.built .haul 3 a.level dst ⟨s.node, 242⟩
    (fieldBytes [a.decision, a.reason, a.segment, a.lease, a.position])
  (s.originate { d with tag := truck } .haul).2

/-- R68: an answer built from a reply page. -/
def State.answerPage (s : State) (truck : Nat) (page : Fin 8) (n : Fin 6) (d : Fin 16) (tag : Nat) (a : Answer) : State :=
  let v : PageValues := ⟨truck, a.decision, a.reason, a.segment, a.lease, a.position, tag⟩
  (s.sendPage page v n d a.level .haul).2

/-- R142: an answer to a request goes by the request's reply context. -/
def State.answerRequest (s : State) (truck : Nat) (ctx : Option ReplyCtx) (src : Addr) (a : Answer) : State :=
  match ctx with
  | some { spur, drop, tag, page := some page, kind := .haulAnswer } => s.answerPage truck page spur drop tag a
  | _ => s.answerNative truck src a

/-- R142: the page, spur and drop of a truck's entry, when its heard-via address is a station of this node within a spur's
address window. -/
def State.truckPage (s : State) (t : Truck) : Option (Fin 8 × Fin 6 × Fin 16) :=
  match t.page with
  | some page =>
    if t.via.node = s.node then (s.dropOfStation? t.via.station).map fun nd => (page, nd.1, nd.2) else none
  | none => none

/-- R142: an unsolicited answer goes by the truck's table entry. -/
def State.answerTruck (s : State) (truck : Nat) (a : Answer) : State :=
  match s.truck? truck with
  | none => s
  | some t =>
    match s.truckPage t with
    | some (page, n, d) => s.answerPage truck page n d t.tag a
    | none => s.answerNative truck t.via a

/-! ## The truck table -/

/-- R150: the removal test of a truck table entry. -/
def State.truckTest (s : State) (id : Nat) : State :=
  s.setTrucks (s.hlc.trucks.filter fun t =>
    !(t.id == id && t.held.isEmpty && t.waiting.isNone && Config.truckMs ≤ s.since t.heard))

/-- R139: refresh an entry from a frame HLC acts on. -/
def State.refreshTruck (s : State) (id : Nat) (src : Addr) (ctx : Option ReplyCtx) : State :=
  s.modTruck id fun t => { t with
    heard := s.time
    via := src
    page := match ctx with
      | some c => if c.kind = .haulAnswer then c.page else none
      | none => none
    tag := match ctx with
      | some c => c.tag
      | none => (Config.tagWithoutContext id s.time).toNat }

/-! ## Grants and promotion -/

/-- R143 steps 8 to 10: the gas policy bars a truck from a segment. -/
def State.barred (s : State) (g : Segment) (truck : Nat) : Bool :=
  g.state == .gasClosed || s.combined g.zone == .trip || s.lockedDown g.zone
    || (s.combined g.zone == .alert && s.policy g.zone == .close)
    || (s.combined g.zone == .alert && s.policy g.zone == .admitRated && !s.rated truck)

/-- R144: the segment can be granted to this truck. -/
def Segment.canEnter (g : Segment) (truck : Nat) (dir : Direction) : Bool :=
  g.occupants.length < g.capacity && g.occupants.all (·.dir == dir)
    && (match g.waiting with
      | [] => true
      | w :: _ => w.truck == truck)

/-- The waiting list without a truck. -/
def Segment.unwait (g : Segment) (truck : Nat) : Segment := { g with waiting := g.waiting.filter (·.truck != truck) }

/-- R144: a grant. -/
def State.grant (s : State) (i : Fin 16) (truck : Nat) (dir : Direction) : State :=
  let g := s.segment i
  let o : Occupant := ⟨truck, dir, s.time, s.after (g.lease * 1000), false⟩
  let onList := g.waiting.any (·.truck == truck)
  let s := s.setSegment i { g.unwait truck with occupants := g.occupants ++ [o] }
  s.modTruck truck fun t => { t with
    held := t.held ++ [g.id]
    waiting := if onList then none else t.waiting }

/-- R145: promotion; each round grants the head of the waiting list or stops. -/
def State.promoteFor : Nat → Fin 16 → State → State
  | 0, _, s => s
  | k + 1, i, s =>
    let g := s.segment i
    match g.state, g.waiting with
    | .opened, w :: _ =>
      if !s.barred g w.truck && g.canEnter w.truck w.dir then
        State.promoteFor k i ((s.grant i w.truck w.dir).answerTruck w.truck (.proceed g))
      else s
    | _, _ => s

/-- R145. -/
def State.promote (s : State) (i : Fin 16) : State := s.promoteFor (s.segment i).waiting.length i

/-- Each waiting entry, from the head, is removed and its truck told HOLD for a reason (R151, R154). -/
def State.dismissWaiting (s : State) (i : Fin 16) (reason : Nat) : State :=
  let g := s.segment i
  let s := s.setSegment i { g with waiting := [] }
  g.waiting.foldl (fun s w =>
    ((s.modTruck w.truck fun t => { t with waiting := none }).answerTruck w.truck (.hold g.id reason)).truckTest w.truck) s

/-! ## Gas closure and reopening -/

/-- A used segment of a zone. -/
def Segment.inZone (g : Segment) (z : Nat) : Bool := g.id != 0 && g.zone == z

/-- R151: one segment is closed for gas. -/
def State.closeForGas (s : State) (i : Fin 16) : State :=
  let g := s.segment i
  let s := (s.setSegment i { g with state := .gasClosed }).dismissWaiting i 6
  g.occupants.foldl (fun s o => s.answerTruck o.truck (.exit g.id)) s

/-- R151: the closure test of one segment against its zone. -/
def State.closureTest (s : State) (i : Fin 16) : State :=
  let g := s.segment i
  if g.id ≠ 0 ∧ g.state ≠ .gasClosed ∧ (s.combined g.zone = .trip ∨ s.lockedDown g.zone) then s.closeForGas i else s

/-- R152: a zone's segments may reopen. -/
def State.mayReopen (s : State) (z : Nat) : Bool :=
  !s.lockedDown z && (match s.combined z with
    | .clear => true
    | .alert => s.policy z != .close
    | .trip => false)

/-- R152: the reopening test of one segment; promotion follows when it becomes OPEN. -/
def State.reopenTest (s : State) (i : Fin 16) : State :=
  let g := s.segment i
  if g.id ≠ 0 ∧ g.state = .gasClosed ∧ g.autoReopen ∧ s.mayReopen g.zone then
    let s := s.setSegment i { g with state := if g.commandClose then .closed else .opened }
    if g.commandClose then s else s.promote i
  else s

/-- The segments of a zone, ascending. -/
def State.zoneSegments (s : State) (z : Nat) : List (Fin 16) := (allFin 16).filter fun g => (s.segment g).inZone z

/-- R151: closure of a zone's segments. -/
def State.closeZone (s : State) (z : Nat) : State := (s.zoneSegments z).foldl State.closureTest s

/-- R152, R145: reopening and promotion in a zone's segments. The rules give no order among segments (R151's ascending index is
for closure): THE MODEL'S CHOICE (notes/assumptions/37.md): ascending table index, each segment reopened and promoted before the next. -/
def State.reopenZone (s : State) (z : Nat) : State :=
  (s.zoneSegments z).foldl (fun s i => (s.reopenTest i).promote i) s

/-- A zone transition reaches HLC (R145, R151, R152). -/
def State.haulTransition (s : State) (z : Nat) : State :=
  if s.combined z = .trip then s.closeZone z else s.reopenZone z

end Sys2Proof.Machine
end

