-- ==== Sys2Proof/Machine/Alarm.lean ====
section
/-! DEFINITION. The alarm controller and what its list drives (chapter 9), with the permit relays' recomputation (R115 to R117), which
the list and the zones drive. -/

namespace Sys2Proof.Machine

/-! ## The alarm list -/

/-- R158: highest severity first, then the order of serials given. -/
def Alarm.before (a b : Alarm) : Bool := b.severity < a.severity || (a.severity == b.severity && a.born < b.born)

/-- R158: an entry at its place in the list. -/
def insertAlarm (a : Alarm) : List Alarm → List Alarm
  | [] => [a]
  | b :: rest => if b.before a then b :: insertAlarm a rest else a :: b :: rest

/-- R158: the entry of a kind and source id. -/
def AlarmControl.find (a : AlarmControl) (k : AlarmKind) (source : Nat) : Option Alarm :=
  a.alarms.find? fun e => e.kind == k && e.source == source

/-- The entry of a serial. -/
def AlarmControl.bySerial (a : AlarmControl) (serial : Nat) : Option Alarm := a.alarms.find? (·.serial == serial)

/-- An entry changed in place. -/
def AlarmControl.put (a : AlarmControl) (old new : Alarm) : AlarmControl :=
  { a with alarms := a.alarms.map fun e => if e = old then new else e }

/-- An entry that leaves the list. -/
def AlarmControl.drop (a : AlarmControl) (e : Alarm) : AlarmControl := { a with alarms := a.alarms.erase e }

/-- R158: the serial counter's next free value; 33 tries pass every listed serial. -/
def nextSerial (used : List Nat) : Nat → Nat → Nat
  | 0, c => c
  | k + 1, c =>
    let c := (c + 1) % 65536
    if used.contains c then nextSerial used k c else c

/-- R159: what a raise gives. -/
structure Raise where
  kind : AlarmKind
  source : Nat
  zone : Nat
  drop : Option DropRef
  action : Fin 16
  severity : Nat
  deriving DecidableEq, Repr

/-- R159: a new entry at its place. -/
def AlarmControl.insertNew (a : AlarmControl) (r : Raise) (now : Time) : AlarmControl :=
  let serial := nextSerial (a.alarms.map (·.serial)) 33 a.serial
  let e : Alarm := {
    serial, kind := r.kind, source := r.source, zone := r.zone, drop := r.drop, action := r.action,
    severity := r.severity, active := true, acked := false, raised := now, again := true, due := true, born := a.born }
  { a with alarms := insertAlarm e a.alarms, serial, born := a.born + 1 }

/-- R159: an entry found is raised again. POST_ALARM replaces its action (R172). -/
def AlarmControl.reraise (a : AlarmControl) (e : Alarm) (r : Raise) (now : Time) : AlarmControl :=
  let e' := { e with
    severity := max e.severity r.severity
    active := true
    raised := if e.active then e.raised else now
    again := e.again || e.acked
    acked := false
    due := true
    action := if r.kind = .posted then r.action else e.action }
  { a with alarms := insertAlarm e' (a.alarms.erase e) }

/-- R160: the entry a full list evicts for a new severity, with whether ALARM_OVERFLOW is raised; none in case 3. -/
def AlarmControl.victim (a : AlarmControl) (severity : Nat) : Option (Alarm × Bool) :=
  match (a.alarms.filter (·.acked)).getLast? with
  | some e => some (e, false)
  | none =>
    match a.alarms.getLast? with
    | some e => if e.severity < severity then some (e, true) else none
    | none => none

/-- R159, R160: the list after a raise. -/
def State.listAlarm (s : State) (r : Raise) : State :=
  match s.alc.find r.kind r.source with
  | some e => s.setAlc (s.alc.reraise e r s.time)
  | none =>
    if s.alc.alarms.length < 32 then s.setAlc (s.alc.insertNew r s.time)
    else match s.alc.victim r.severity with
      | some (e, overflow) =>
        let s := s.setAlc ((s.alc.drop e).insertNew r s.time)
        if overflow then s.raise .alarmOverflow else s
      | none => s.raise .alarmOverflow

/-- R161: the list after a condition has cleared. -/
def AlarmControl.cleared (a : AlarmControl) (k : AlarmKind) (source : Nat) : AlarmControl :=
  match a.find k source with
  | some e =>
    if !e.active then a
    else if e.acked then a.drop e
    else a.put e { e with active := false, due := true }
  | none => a

/-! ## Relays (R115 to R117) -/

/-- R115: whether a relay is to be energised. -/
def State.relayWants (s : State) (r : Relay) : Bool :=
  match r.func with
  | .noFunction => false
  | .zonePermit => (allFin 31).all fun z =>
      !r.mask.getLsbD (z.val + 1) || ((s.zone z).evaluated && (s.zone z).combined != .trip)
  | .islandLamp => s.alc.island
  | .severityAtLeast => (s.alc.severityFlags[r.severity - 1]?).getD false

/-- R114: the driver output RLk_DRV of a relay. -/
def Relay.drv (r : Relay) : Bool := r.energised

/-- R117: the feedback agrees with the command. -/
def Relay.agrees (r : Relay) : Bool := r.energised == r.closed

/-- R117: command and feedback have come to agree or to disagree. -/
def Relay.compared (r : Relay) (due : Time) : Relay :=
  if r.agrees then { r with mismatchDue := none, fault := false } else { r with mismatchDue := some due }

/-- R116: one relay recomputed; whether its RELAY_FAULT condition has cleared. -/
def State.relayRecompute (s : State) (k : Fin 4) : Bool × State :=
  let r := s.relay k
  let want := s.relayWants r
  if want = r.energised then (false, s)
  else
    let r' := { r with energised := want }.compared (s.after Config.mismatchMs)
    (r.fault && !r'.fault, s.setRelay k r')

/-- R116: the relays that an event concerns are recomputed, ascending; those whose RELAY_FAULT has cleared. -/
def State.relaysRecompute (s : State) (concerns : Relay → Bool) : List (Fin 4) × State :=
  (allFin 4).foldl (fun (acc : List (Fin 4) × State) k =>
    if concerns (acc.2.relay k) then
      let (fixed, s) := acc.2.relayRecompute k
      (if fixed then acc.1 ++ [k] else acc.1, s)
    else acc) ([], s)

/-! ## What the list drives (R163 to R165) -/

/-- R163: an entry drives outputs. -/
def AlarmControl.drives (a : AlarmControl) (e : Alarm) : Bool :=
  a.island || a.actions[e.action].mode != .announce

/-- R163: the scope of an entry's action covers a drop of a zone. -/
def AlarmControl.covers (a : AlarmControl) (e : Alarm) (n : Fin 6) (d : Fin 16) (zone : Nat) : Bool :=
  match a.actions[e.action].scope with
  | .sourceDrop => e.drop == some ⟨n, d⟩
  | .zone => e.zone != 0 && e.zone == zone
  | .all => true

/-- R163: the desired mask of a drop. -/
def AlarmControl.mask (a : AlarmControl) (n : Fin 6) (d : Fin 16) (zone : Nat) : BitVec 4 :=
  a.alarms.foldl (fun m e =>
    if a.drives e && a.covers e n d zone then m ||| a.actions[e.action].mask else m) 0

/-- R163: the masks recomputed and written to the spur ports. -/
def State.masksRecompute (s : State) : State :=
  { s with spurs := vmapIdx (fun n (p : SpurPort) => p.rewriteMasks fun d => s.alc.mask n d p.drops[d].zone) s.spurs }

/-- R164: the lockdown count of a zone number. -/
def AlarmControl.lockCount (a : AlarmControl) (z : Nat) : Nat :=
  a.alarms.countP fun e => e.zone == z && a.actions[e.action].mode == .lockdown

/-- R164: HLC is told of a zone's rise from 0 or fall to 0. -/
def State.lockdownReport (s : State) (z : Nat) (old new : Nat) : State :=
  if old = 0 ∧ new ≠ 0 then s.closeZone z
  else if old ≠ 0 ∧ new = 0 then s.reopenZone z
  else s

/-- R164: the counts recomputed, and HLC told. When the counts of several zones move in one recomputation, R151, R152 and R164 give no
order: THE MODEL'S CHOICE (notes/assumptions/37.md): all the counts first, and then HLC is told zone by zone, ascending. -/
def State.lockdownRecompute (s : State) : State :=
  let old := s.alc.lockdown
  let s := s.setAlc { s.alc with lockdown := vgen fun z => s.alc.lockCount (z.val + 1) }
  let new := s.alc.lockdown
  (allFin 31).foldl (fun s z => s.lockdownReport (z.val + 1) old[z] new[z]) s

/-- R165: the flag of severity `n`. -/
def AlarmControl.severityFlag (a : AlarmControl) (n : Nat) : Bool :=
  a.alarms.any fun e => !e.acked && n ≤ e.severity
    && (a.actions[e.action].mode == .announceTrip || a.actions[e.action].mode == .lockdown)

/-- R165: the flags recomputed; SEVERITY_AT_LEAST relays follow. A RELAY_FAULT that clears on the way changes its entry, of zone 0
and with its acknowledgement unchanged, so it moves neither the counts nor the flags. -/
def State.severityRecompute (s : State) : State :=
  let s := s.setAlc { s.alc with severityFlags := vgen fun n => s.alc.severityFlag (n.val + 1) }
  let (fixed, s) := s.relaysRecompute fun r => r.func == .severityAtLeast
  let s := fixed.foldl (fun s k => s.setAlc (s.alc.cleared .relayFault (k.val + 1))) s
  if fixed.isEmpty then s else s.masksRecompute

/-- R163 to R165: what follows a change of the list. -/
def State.driveOutputs (s : State) : State := s.masksRecompute.lockdownRecompute.severityRecompute

/-! ## Announcements (R166, R167) -/

/-- R166: the pacer may announce. -/
def State.mayAnnounce (s : State) : Bool := !s.alc.island && !s.stations.isEmpty

/-- R167: the ANNOUNCE of an entry. -/
def State.announceFrame (s : State) (e : Alarm) (dst : Addr) : Frame :=
  let zoneState := ((zoneIx e.zone).map fun z => (s.alc.zoneCopy[z]).ctorIdx).getD 0
  { Frame.built .alarm 0 14 dst ⟨s.node, 240⟩
      (bytes16 e.serial ++ [byte e.kind.code, byte e.severity, byte (flag (!e.active) + 2 * zoneState), byte e.zone]
        ++ bytes16 e.source ++ bytes32 e.raised.toNat ++ [byte s.node]) with
    zone := e.zone
    tag := e.serial }

/-- R167: ALC is told that an announcement could not be sent. -/
def State.announceFailed (s : State) (serial : Nat) : State :=
  match s.alc.bySerial serial with
  | some e => if e.acked then s else s.setAlc (s.alc.put e { e with due := true })
  | none => s

/-- R167: an entry is announced to each control station. -/
def State.announce (s : State) (e : Alarm) : State :=
  let s := s.setAlc (s.alc.put e { e with due := false })
  s.stations.foldl (fun s a =>
    let (ok, s) := s.originate (s.announceFrame e a) (.announce e.serial)
    if ok then s else s.announceFailed e.serial) s

/-- R166: the first DUE entry is announced and the gap timer started. -/
def State.announceFirst (s : State) (e : Alarm) : State :=
  (s.setAlc { s.alc with gapDue := some (s.after Config.gapMs) }).announce e

/-- R166: in IDLE, the pacer announces when it is able to and an entry is DUE. -/
def State.offerPacer (s : State) : State :=
  match s.alc.gapDue, s.alc.alarms.find? (·.due) with
  | none, some e => if s.mayAnnounce then s.announceFirst e else s
  | _, _ => s

/-! ## Raising and clearing -/

/-- R159: a block raises a condition; the severity and action are those of its kind's action table entry. -/
def State.raiseAlarm (s : State) (k : AlarmKind) (source zone : Nat) (drop : Option DropRef) : State :=
  let action : Fin 16 := ⟨k.code % 16, Nat.mod_lt _ (by decide)⟩
  ((s.listAlarm ⟨k, source, zone, drop, action, s.alc.actions[action].severity⟩).driveOutputs).offerPacer

/-- R161: a block tells ALC that a condition has cleared. -/
def State.clearAlarm (s : State) (k : AlarmKind) (source : Nat) : State :=
  let a := s.alc.cleared k source
  if a = s.alc then s else (s.setAlc a).driveOutputs.offerPacer

/-- R116, R117: the relays an event concerns are recomputed, and ALC told of the faults that cleared. The rules give no order for
several relays of one event: THE MODEL'S CHOICE (notes/assumptions/37.md): all are recomputed, and then the RELAY_FAULT conditions
clear in ascending relay, which decides the entry that an IDLE pacer announces first. -/
def State.driveRelays (s : State) (concerns : Relay → Bool) : State :=
  let (fixed, s) := s.relaysRecompute concerns
  fixed.foldl (fun s k => s.clearAlarm .relayFault (k.val + 1)) s

/-! ## Island (R170) -/

/-- R170: the node becomes island. -/
def State.enterIsland (s : State) : State :=
  ((s.setAlc { s.alc with island := true }).driveOutputs).driveRelays fun r => r.func == .islandLamp

/-- Every unacknowledged entry has DUE set (R157, R170). -/
def AlarmControl.allDue (a : AlarmControl) : AlarmControl :=
  { a with alarms := a.alarms.map fun e => if e.acked then e else { e with due := true } }

/-- R170: the node leaves island. -/
def State.leaveIsland (s : State) : State :=
  (((s.setAlc { s.alc.allDue with island := false }).driveOutputs).driveRelays fun r => r.func == .islandLamp).offerPacer

end Sys2Proof.Machine
end

