-- ==== Sys2Proof/Machine/Bank.lean ====
section
/-! DEFINITION. Reading a frame from the buffer through its error code (R74), and the banks' states (R75 to R78). -/

namespace Sys2Proof.Machine

/-- R74: words newly found in error join those already in error; the worse kind stands. -/
def Buffer.upset (b : Buffer) (u : Upset) : Buffer :=
  let here (w : BadWord) : Bool := w.block == u.block.val && w.word == u.word.val
  if b.bad.any here then { b with bad := b.bad.map fun w => if here w then { w with fatal := w.fatal || u.fatal } else w }
  else { b with bad := b.bad ++ [⟨u.block.val, u.word.val, u.fatal⟩] }

/-- The memory errors that have appeared since the buffer was last read. -/
def State.upsets (s : State) (u : Upsets) : State := s.setFbf (u.foldl Buffer.upset s.fbf)

/-- Another bank than `k` is IN_SERVICE. -/
def Buffer.otherInService (b : Buffer) (k : Fin 4) : Bool :=
  (allFin 4).any fun j => j != k && b.banks[j].state == .inService

/-- R76: a bank enters RETIRING. -/
def State.enterRetiring (s : State) (k : Fin 4) (cause : RetireCause) : State :=
  let x := s.bank k
  let s := (s.setBank k { x with state := .retiring, cause, retirePending := false }).raise .bankChange
  let s := s.setFbf { s.fbf with free := s.fbf.free.filter fun b => bankOf b != k }
  let s := if x.retirePending then s else s.raiseAlarm .bankFault (k.val + 1) 0 none
  s.retiredTest k

/-- R75: the bank has reached retirement, with the cause. -/
def Bank.reached (x : Bank) (limit : Nat) : Option RetireCause :=
  if 2 ≤ x.uncorrectable then some .uncorrectable
  else if limit ≤ x.corrected then some .correctedLimit
  else none

/-- R75: the test after a count increase. -/
def State.retireTest (s : State) (k : Fin 4) : State :=
  let x := s.bank k
  match x.state, x.reached s.mge.table.correctedLimit with
  | .inService, some cause =>
    if s.fbf.otherInService k then s.enterRetiring k cause
    else (s.setBank k { x with retirePending := true, cause }).raiseAlarm .bankFault (k.val + 1) 0 none
  | _, _ => s

/-- R74: one word of a frame read. `false` ends the read: the frame has been discarded. -/
def State.readWord (s : State) (f : Stored) (i : Nat) : Bool × State :=
  match f.blocks[i / 16]? with
  | none => (true, s)
  | some b =>
    match s.fbf.bad.find? fun w => w.block == b && w.word == i % 16 with
    | none => (true, s)
    | some w =>
      let k := bankOf b
      let x := s.bank k
      if w.fatal then
        let s := (s.setBank k { x with uncorrectable := countUp x.uncorrectable }).raise .bankChange
        (false, (s.free f.blocks).retireTest k)
      else (true, (s.setBank k { x with corrected := countUp x.corrected }).retireTest k)

/-- R74: the words a frame's bytes occupy, from word `i`, `n` of them. The read ends at an uncorrectable word, and the rule gives the
words no order. THE MODEL'S CHOICE (notes/assumptions/37.md): ascending, so that the words in error before that one are counted, and those
after it are not. -/
def State.readWords (s : State) (f : Stored) : Nat → Nat → Bool × State
  | 0, _ => (true, s)
  | n + 1, i =>
    match s.readWord f i with
    | (true, s) => s.readWords f n (i + 1)
    | (false, s) => (false, s)

/-- R74: a frame read from the buffer. On `false` it has been discarded and its blocks are free. -/
def State.readFrame (s : State) (f : Stored) : Bool × State := s.readWords f ((f.body.size + 7) / 8) 0

/-- R75: the pending retirements are taken when a bank enters IN_SERVICE. -/
def State.takePending (s : State) : State :=
  (allFin 4).foldl (fun s k =>
    if (s.bank k).retirePending && s.fbf.otherInService k then s.enterRetiring k (s.bank k).cause else s) s

/-- The blocks of a bank, ascending. -/
def bankBlocks (k : Fin 4) : List Nat := (List.range 64).map (64 * k.val + ·)

/-- R78: the end of a scrub. -/
def State.scrubEnd (s : State) (k : Fin 4) : State :=
  let x := s.bank k
  let s := (s.setBank k { x with
    state := .inService, cause := .noCause, corrected := 0, uncorrectable := 0, scrubDue := none }).raise .bankChange
  let s := s.setFbf { s.fbf with
    free := s.fbf.free ++ bankBlocks k
    bad := s.fbf.bad.filter fun w => bankOf w.block != k }
  (s.clearAlarm .bankFault (k.val + 1)).takePending

end Sys2Proof.Machine
end

