-- ==== Sys2Proof/Machine/Take.lean ====
section
/-! DEFINITION. LOCAL's service (R82): which row a frame waiting for an internal endpoint is, and an endpoint's taking of its next
frame. -/

namespace Sys2Proof.Machine

/-- The WRITE row of a table id (R176). -/
def writeRow (table : Nat) (u : Upsets) : Instr :=
  match table with
  | 1 => .writeNode u
  | 2 => .writeWindows u
  | 3 => .writeDirection u
  | 4 => .writeRulesetA u
  | 5 => .writeRulesetB u
  | 6 => .writeReplyPages u
  | 7 => .writeChannels u
  | 8 => .writeZones u
  | 9 => .writeRelays u
  | 10 => .writeSegments u
  | 11 => .writeRoster u
  | 12 => .writeActions u
  | 13 => .writeSpurs u
  | _ => .writeOther u

/-- The row of a command code (R179). -/
def commandRow (code : Nat) (u : Upsets) : Instr :=
  match code with
  | 1 => .resetTrip u
  | 2 => .inhibit u
  | 3 => .endInhibit u
  | 4 => .forceZoneTrip u
  | 5 => .releaseZoneForce u
  | 6 => .clearReporter u
  | 7 => .ackAlarm u
  | 8 => .postAlarm u
  | 9 => .clearPosted u
  | 10 => .openSegment u
  | 11 => .closeSegment u
  | 12 => .releaseOccupant u
  | 13 => .releaseCircuit u
  | 14 => .exchangeRuleset u
  | 15 => .spurReset u
  | 16 => .bankRetire u
  | 17 => .bankRestore u
  | 18 => .clearEvents u
  | 19 => .save u
  | 20 => .restart u
  | _ => .badOperationRequest u

/-- The row of an MGMT frame (R174): by its subtype, its operation byte and the table id or command code it names. -/
def mgmtRow (d : Frame) (u : Upsets) : Instr :=
  if d.subtype ≠ 0 then .mgmtFrameDiscard u
  else if d.payload = [] then .badOperationRequest u
  else match byteAt d.payload 0 with
    | 0 => if byteAt d.payload 1 = 32 then .readTrunks u else .read u
    | 1 => writeRow (byteAt d.payload 1) u
    | 2 => commandRow (byteAt d.payload 1) u
    | _ => .badOperationRequest u

/-- The row that acts on a frame taken from LOCAL. A frame that its endpoint discards without a row of its own is taken by that
endpoint's commonest row (notes/assumptions/9.md). -/
def localRow (d : Frame) (u : Upsets) : Instr :=
  match d.cls with
  | .alarm => .alarmFrameDiscard u
  | .air => if d.subtype = 1 then .zoneReportReceive u else .sampleReceive u
  | .haul =>
    match d.subtype with
    | 1 => .entryRequestReceive u
    | 2 => .haulClearReceive u
    | _ => .beaconReceive u
  | .call =>
    match d.subtype with
    | 0 => .callSetupReceive u
    | 1 => .callAlertReceive u
    | 2 => .callConnectReceive u
    | 3 => .callReleaseReceive u
    | _ => .callVoiceReceive u
  | _ => mgmtRow d u

/-- The destination station of a waiting frame. -/
def Stored.station (f : Stored) : Nat :=
  match f.body with
  | .drift d => d.dst.station
  | .raw _ => 256

/-- R82: a voice frame that has waited too long. -/
def State.staleVoice (s : State) (f : Stored) : Bool :=
  f.isVoice && (match f.entry with
    | some t => decide (Config.voiceMs < s.since t)
    | none => false)

/-- R82: a stale voice frame discarded at its turn on a queue. -/
def State.discardStale (s : State) (q : Fin 9) (f : Stored) : State :=
  let x := s.queue q
  (s.setQueue q { x with stale := countUp x.stale }).free f.blocks

/-- A frame leaves a queue. -/
def State.unqueue (s : State) (q : Fin 9) (f : Stored) : State :=
  let x := s.queue q
  s.setQueue q { x with frames := x.frames.erase f }

/-- MGE takes requests: not while the load runs (R182) and not while it carries out a RESTART (R184). Requests wait on LOCAL meanwhile;
the frames that MGE only discards do not, so that a RESTART reply to this node's own station 0 can be taken there (R184). -/
def State.manageReady (s : State) : Bool := s.cfl.load != .loading && !s.mge.restarting

/-- R174: a frame for MGE that is a request. -/
def Stored.isRequest (f : Stored) : Bool :=
  f.station == 0 && (match f.body with
    | .drift d => d.subtype == 0
    | .raw _ => false)

/-- R82: the endpoint of a frame that waits on LOCAL is ready for it. Each step of an endpoint is whole, so that only MGE, while it takes
no request, is not ready, and then for requests alone (notes/assumptions/30.md). -/
def State.endpointReady (s : State) (f : Stored) : Bool := !f.isRequest || s.manageReady

/-- R82, R74: the oldest frame of the highest level among those whose endpoint is ready, read; its blocks are freed as the endpoint
takes it (R73). A stale voice frame, one that cannot be read, and raw bytes, which no endpoint takes (CLS delivers drift frames alone,
R46), are discarded, and EGS chooses again. -/
def State.localTakeFor : Nat → State → Option (Stored × Frame) × State
  | 0, s => (none, s)
  | k + 1, s =>
    match (s.queue localQueue).frames.find? s.endpointReady with
    | none => (none, s)
    | some f =>
      let s := s.unqueue localQueue f
      if s.staleVoice f then State.localTakeFor k (s.discardStale localQueue f)
      else match s.readFrame f, f.body.frame? with
        | (true, s), some d => (some (f, d), s.free f.blocks)
        | (true, s), none => State.localTakeFor k (s.free f.blocks)
        | (false, s), _ => State.localTakeFor k s

/-- The turns that an egress can need before a frame passes: one for each frame on its queue, and for the two announcements that a
BANK_FAULT met on the way can add (R75, R166, R167). -/
def State.turns (s : State) (q : Fin 9) : Nat := (s.queue q).frames.length + 3

/-- R82: the frame that LOCAL hands over next. -/
def State.localTake (s : State) : Option (Stored × Frame) × State := State.localTakeFor (s.turns localQueue) s

/-- An endpoint's step: the errors that have appeared are met, LOCAL hands over its next frame, and the endpoint acts on it when the
frame is this row's. Where the next frame is another row's, this step does not occur and nothing changes. -/
def State.takeRow (s : State) (station : Nat) (u : Upsets) (mine : Frame → Bool) (act : Stored → Frame → State → State) :
    State :=
  match (s.upsets u).localTake with
  | (some (f, d), s') => if f.station = station ∧ mine d then act f d s' else s
  | (none, s') => s'

end Sys2Proof.Machine
end

