-- ==== Sys2Proof/Machine/Air.lean ====
section
/-! DEFINITION. The air evaluator: the stages of a sample (chapter 5), the zones (chapter 6, sections 6.1 to 6.6), and the rows that
act on them. The commands are in Manage.lean, the writes in Writes.lean. -/

namespace Sys2Proof.Machine

/-- What a command answers: every step has an effect, the notices owed going out at its end. -/
def done (s : State) : Host.Outcome State Fault Refusal := .next s.settle

/-! ## Channel stages -/

/-- R94: the calibrated value of a count, with whether it passed the full scale. -/
def ChannelCfg.calibrate (c : ChannelCfg) (count : Nat) : Nat × Bool :=
  let v : Int := (((count : Int) - c.zeroOffset) * c.gain + 2048) / 4096
  if c.fullScale < v.toNat then (c.fullScale, true) else (v.toNat, false)

/-- R95: one smoothing step. -/
def smoothStep (k : Nat) (calibrated smoothed : Nat) : Nat :=
  let d : Int := (calibrated : Int) - smoothed
  let step := d.tdiv (2 ^ k)
  let step := if step = 0 then d.sign else step
  ((smoothed : Int) + step).toNat

/-- R95: stage 3. -/
def Channel.smooth (c : Channel) : Channel :=
  { c with smoothed := if c.computed = .starting then c.calibrated else smoothStep c.cfg.shift c.calibrated c.smoothed }

/-- The mark set to the smoothed value and now (R96). -/
def Channel.mark (c : Channel) (now : Time) : Channel := { c with markValue := c.smoothed, markTime := now }

/-- R96: how far the smoothed value has moved toward danger since the mark. -/
def Channel.rise (c : Channel) : Int :=
  match c.cfg.sense with
  | .high => (c.smoothed : Int) - c.markValue
  | .low => (c.markValue : Int) - c.smoothed

/-- R96: stage 4. -/
def Channel.riseTest (c : Channel) (now : Time) : Channel :=
  if c.cfg.riseWindow = 0 then { c with causes := { c.causes with rise := false } }.mark now
  else if c.computed = .starting ∨ c.causes.fail then c.mark now
  else if c.cfg.riseWindow * 1000 ≤ (now - c.markTime).toNat then
    { c with causes := { c.causes with rise := decide ((c.cfg.riseLimit : Int) ≤ c.rise) } }.mark now
  else c

/-- R97: the LEVEL cause. -/
def Channel.levelTest (c : Channel) : Bool :=
  match c.cfg.sense, c.causes.level with
  | .high, false => c.cfg.trip ≤ c.smoothed
  | .high, true => c.cfg.trip ≤ c.smoothed + c.cfg.hysteresis
  | .low, false => c.smoothed ≤ c.cfg.trip
  | .low, true => c.smoothed ≤ c.cfg.trip + c.cfg.hysteresis

/-- R97: stage 5. -/
def Channel.causesTest (c : Channel) (now : Time) : Channel :=
  { c with
    causes := {
      level := c.levelTest
      rise := c.causes.rise
      overRange := c.flags.overRange && c.cfg.overTrips
      fail := false }
    lastValid := now }

/-- R98: LEVEL, RISE or OVER is set. -/
def Causes.trips (k : Causes) : Bool := k.level || k.rise || k.overRange

/-- R98 step 3: the smoothed value stands in the warn range, given the prior state. -/
def Channel.warns (c : Channel) : Bool :=
  let held := c.computed == .warn || c.computed == .trip
  match c.cfg.sense with
  | .high => c.cfg.warn ≤ c.smoothed + (if held then c.cfg.hysteresis else 0)
  | .low => c.smoothed ≤ c.cfg.warn + (if held then c.cfg.hysteresis else 0)

/-- R98: the derivation of the computed state, the latch and the state. -/
def Channel.derive (c : Channel) : Channel :=
  let computed :=
    if c.latched || c.causes.trips then .trip
    else if c.causes.fail then .fault
    else if c.warns then .warn
    else .normal
  { c with
    computed
    latched := c.latched || (c.causes.trips && c.cfg.latch && c.state != .inhibited)
    state := if c.state = .inhibited then .inhibited else computed }

/-- R93: stage 1 and, for a valid word, R94's stage 2. An indefinite word answers none. -/
def Channel.qualify (c : Channel) (word : Nat) : Option Channel :=
  match word / 16384 with
  | 0 =>
    let (v, above) := c.cfg.calibrate (word % 16384)
    some { c with calibrated := v, flags := ⟨above, false, false⟩ }
  | 1 => some { c with calibrated := c.cfg.fullScale, flags := ⟨true, false, false⟩ }
  | 2 => some { c with calibrated := 0, flags := ⟨false, true, false⟩ }
  | _ => none

/-- R91 to R98: a sample word evaluated; the flag says whether the evaluation reached stage 5. -/
def Channel.sample (c : Channel) (word : Nat) (now : Time) : Bool × Channel :=
  let c := { c with lastRaw := word }
  match c.qualify word with
  | none => (false, { c with flags := ⟨false, false, true⟩ })
  | some c => (true, (((c.smooth).riseTest now).causesTest now).derive)

/-! ## What a zone sees (R104) -/

/-- R104: the channel contributes to a zone number. -/
def Channel.contributes (c : Channel) (z : Nat) : Bool := c.cfg.enabled && c.cfg.zone == z && c.state != .inhibited

/-- R104: counts as TRIP. -/
def Channel.countsTrip (c : Channel) : Bool :=
  c.latched || c.computed == .trip || (c.computed == .fault && c.cfg.failTrips)

/-- R104: counts as WARN. -/
def Channel.countsWarn (c : Channel) : Bool := !c.countsTrip && (c.computed == .fault || c.computed == .warn)

/-- R104: counts as STARTING. -/
def Channel.countsStarting (c : Channel) : Bool := !c.countsTrip && c.computed == .starting

/-- The channels that contribute to a zone number. -/
def State.contributors (s : State) (z : Nat) : List Channel := s.channels.toList.filter (·.contributes z)

/-- R107: the local state of a zone. -/
def State.localNow (s : State) (z : Fin 31) : ZState :=
  let cs := s.contributors (z.val + 1)
  let x := s.zone z
  if x.force || cs.any Channel.countsTrip then .trip
  else if cs.any (fun c => c.countsWarn || c.countsStarting) || (x.monitored && cs.isEmpty) then .alert
  else .clear

/-- The worse of two zone states (R113). -/
def ZState.worse : ZState → ZState → ZState
  | .trip, _ => .trip
  | _, .trip => .trip
  | .alert, _ => .alert
  | _, .alert => .alert
  | .clear, .clear => .clear

/-- R113: a reporter's state in the combined state. -/
def RepState.counts : RepState → ZState
  | .clear => .clear
  | .alert => .alert
  | .trip => .trip
  | .stale => .alert

/-- R113, R105: the combined state over a local state. -/
def Zone.combine (x : Zone) (l : ZState) : ZState :=
  if x.enabled then x.reporters.foldl (fun a r => a.worse r.state.counts) l else l

/-! ## Zone reports and transitions -/

/-- R109: a zone report of the local state is originated; a failed send changes nothing further. -/
def State.sendZoneReport (s : State) (z : Fin 31) : State :=
  let x := s.zone z
  let n := z.val + 1
  let d := Frame.built .air 1 11 ⟨63, 241⟩ ⟨s.node, 241⟩ (bytes16 x.localState.ctorIdx)
  ((s.setZone z { x with lastSent := s.time }).originate { d with zone := n, tag := n } .zoneReport).2

/-- R134: a transition into TRIP raises the zone's NORMAL and PRIORITY circuits to ZONE. -/
def State.escalate (s : State) (z : Nat) : State :=
  s.setCsw { s.csw with
    circuits := s.csw.circuits.map fun c =>
      if c.zone = z ∧ (c.prec = .normal ∨ c.prec = .priority) then { c with prec := .zone } else c }

/-- The ZONE_PERMIT relays whose mask holds a zone (R116). -/
def Relay.guards (r : Relay) (z : Fin 31) : Bool := r.func == .zonePermit && r.mask.getLsbD (z.val + 1)

/-- R113: a transition reaches RLY, CSW, HLC and ALC. -/
def State.transition (s : State) (z : Fin 31) : State :=
  let state := (s.zone z).combined
  let s := s.driveRelays (·.guards z)
  let s := if state = .trip then s.escalate (z.val + 1) else s
  let s := s.haulTransition (z.val + 1)
  s.setAlc { s.alc with zoneCopy := s.alc.zoneCopy.set z state }

/-- R113: the gas conditions that an evaluation ends, then those it starts. -/
def State.gasAlarms (s : State) (z : Fin 31) (was now : Zone) : State :=
  let n := z.val + 1
  let s := if was.gasWarn && !now.gasWarn then s.clearAlarm .gasWarn n else s
  let s := if was.localState = .trip ∧ now.localState ≠ .trip then s.clearAlarm .gasTrip n else s
  let s := if was.localState ≠ .trip ∧ now.localState = .trip then s.raiseAlarm .gasTrip n n none else s
  if !was.gasWarn && now.gasWarn then s.raiseAlarm .gasWarn n n none else s

/-- R107, R113: a zone is evaluated. -/
def State.evaluate (s : State) (z : Fin 31) : State :=
  let was := s.zone z
  let l := s.localNow z
  let now := { was with
    localState := l
    combined := was.combine l
    evaluated := true
    gasWarn := l == .alert && (s.contributors (z.val + 1)).any Channel.countsWarn }
  let s := s.setZone z now
  let s := if was.localState ≠ l ∧ was.enabled then s.sendZoneReport z else s
  let s :=
    if was.combined ≠ now.combined then s.transition z
    else if !was.evaluated then s.driveRelays (·.guards z)
    else s
  s.gasAlarms z was now

/-- R104: a channel is handed to a zone number. -/
def State.handTo (s : State) (z : Nat) : State :=
  match zoneIx z with
  | some i => s.evaluate i
  | none => s

/-- R107: the end of the load evaluates the zones not yet evaluated; R113 gives no order among zones. THE MODEL'S CHOICE
(notes/assumptions/37.md): ascending. -/
def State.evaluateRest (s : State) : State :=
  (allFin 31).foldl (fun s z => if (s.zone z).evaluated then s else s.evaluate z) s

/-! ## Samples -/

/-- R91: the channel that a SAMPLE is accepted for. -/
def State.sampleChannel (s : State) (d : Frame) : Option (Fin 48) :=
  match fin? 48 d.tag with
  | some c =>
    if (s.channel c).cfg.enabled ∧ (s.channel c).cfg.source = d.src ∧ 2 ≤ d.payload.length then some c else none
  | none => none

/-- R91 to R98: an accepted SAMPLE. -/
def State.takeSample (s : State) (c : Fin 48) (word : Nat) : State :=
  let old := s.channel c
  let (reached, x) := old.sample word s.time
  let s := s.setChannel c x
  if reached then
    let s := if old.causes.fail then s.clearAlarm .channelFault c.val else s
    s.handTo x.cfg.zone
  else s

/-- R91: an AIR frame that is no zone report. -/
def State.airFrame (_ : Stored) (d : Frame) (s : State) : State :=
  if d.subtype ≠ 0 then s
  else match s.sampleChannel d with
    | some c => s.takeSample c (halfAt d.payload 0)
    | none => if d.dst.node = 63 then s else s.raise .sampleRejected

/-- SAMPLE_RECEIVE (R91). -/
def execSampleReceive (u : Upsets) (s : State) : Host.Outcome State Fault Refusal :=
  done (s.takeRow 241 u (·.subtype != 1) State.airFrame)

/-- R99: the channel's stale expiry is due. -/
def State.staleDue (s : State) (c : Fin 48) : Bool :=
  let x := s.channel c
  x.cfg.enabled && !x.causes.fail && x.cfg.staleLimit * 1000 ≤ s.since x.lastValid

/-- STALE_EXPIRY (R99, R100). R98 has the zone hand-off follow the derivation and R99 raises CHANNEL_FAULT, in no stated order. THE
MODEL'S CHOICE (notes/assumptions/41.md): the condition is raised first, so that its serial comes before GAS_TRIP's. -/
def execStaleExpiry (c : Fin 48) (s : State) : Host.Outcome State Fault Refusal :=
  done (
    if s.staleDue c then
      let x := s.channel c
      let s := s.setChannel c { x with causes := { x.causes with fail := true } }.derive
      let s := if x.state = .inhibited then s else s.raiseAlarm .channelFault c.val x.cfg.zone none
      s.handTo x.cfg.zone
    else s)

/-- R103: an inhibit ends. -/
def State.endInhibit (s : State) (c : Fin 48) : State :=
  let x := s.channel c
  let s := s.setChannel c { x with inhibitEnd := 0, state := x.computed }.derive
  let s := if x.causes.fail then s.raiseAlarm .channelFault c.val x.cfg.zone none else s
  s.handTo x.cfg.zone

/-- INHIBIT_EXPIRY (R103). -/
def execInhibitExpiry (c : Fin 48) (s : State) : Host.Outcome State Fault Refusal :=
  done (if (s.channel c).state = .inhibited ∧ s.reached (s.channel c).inhibitEnd then s.endInhibit c else s)

/-! ## Zone reports -/

/-- R109: the periodic report of a zone is due. -/
def State.reportDue (s : State) (z : Fin 31) : Bool :=
  let x := s.zone z
  x.enabled && Config.zoneReportMs ≤ s.since x.lastSent
    && (x.force || s.channels.toList.any fun c => c.cfg.enabled && c.cfg.zone == z.val + 1)

/-- ZONE_REPORT_PERIODIC (R109). -/
def execZoneReportPeriodic (z : Fin 31) (s : State) : Host.Outcome State Fault Refusal :=
  done (if s.reportDue z then s.sendZoneReport z else s)

/-- The state a report carries (R110). -/
def repStateOf : Nat → Option RepState
  | 0 => some .clear
  | 1 => some .alert
  | 2 => some .trip
  | _ => none

/-- R110: the CLEAR reporter entry with the earliest report time, the one nearer the head among equals. -/
def oldestClear (now : Time) (rs : List Reporter) : Option Reporter :=
  (rs.filter (·.state == .clear)).foldl (fun best r =>
    match best with
    | none => some r
    | some b => if (now - b.time).toNat < (now - r.time).toNat then some r else some b) none

/-- R110: the reporter list after a report, with whether the zone is then evaluated; `none` when the list is full of entries that
are not CLEAR and the report is not CLEAR. -/
def reporterUpdate (rs : List Reporter) (node : Nat) (st : RepState) (now : Time) : Option (Bool × List Reporter) :=
  let new : Reporter := ⟨node, st, now⟩
  if rs.any (·.node == node) then some (true, rs.map fun r => if r.node = node then new else r)
  else if rs.length < 8 then some (true, rs ++ [new])
  else if st = .clear then some (false, rs)
  else match oldestClear now rs with
    | some r => some (true, rs.erase r ++ [new])
    | none => none

/-- R110: a zone report is checked and taken. -/
def State.zoneReport (_ : Stored) (d : Frame) (s : State) : State :=
  if d.src.station ≠ 241 ∨ d.src.node = 0 ∨ 62 < d.src.node ∨ d.src.node = s.node ∨ d.payload.length < 2 then s
  else match zoneIx d.tag, repStateOf (halfAt d.payload 0) with
    | some z, some st =>
      let x := s.zone z
      if !x.enabled then s
      else match reporterUpdate x.reporters d.src.node st s.time with
        | some (true, rs) => (s.setZone z { x with reporters := rs }).evaluate z
        | some (false, _) => s
        | none => s.raise .zoneReportOverflow
    | _, _ => s

/-- ZONE_REPORT_RECEIVE (R110). -/
def execZoneReportReceive (u : Upsets) (s : State) : Host.Outcome State Fault Refusal :=
  done (s.takeRow 241 u (·.subtype == 1) State.zoneReport)

/-- R111: a reporter entry ages. -/
def State.ageingDue (s : State) (z : Fin 31) (node : Nat) : Bool :=
  (s.zone z).reporters.any fun r => r.node == node && r.state != .stale && Config.reporterMs ≤ s.since r.time

/-- REPORTER_AGEING (R111). -/
def execReporterAgeing (z : Fin 31) (node : Nat) (s : State) : Host.Outcome State Fault Refusal :=
  done (
    if s.ageingDue z node then
      let x := s.zone z
      (s.setZone z { x with
        reporters := x.reporters.map fun r => if r.node = node then { r with state := .stale } else r }).evaluate z
    else s)

end Sys2Proof.Machine
end

