-- ==== Sys2Proof/Machine/Calls.lean ====
section
/-! DEFINITION. The call switch (chapter 7): the circuit table, signalling, admission and preemption, and its rows. -/

namespace Sys2Proof.Machine

/-- R118: the level of a precedence. -/
def Precedence.level : Precedence → Nat
  | .normal => 8
  | .priority => 10
  | .zone => 12
  | .emergency => 13

/-- R118: the circuit's role, ORIGIN, TRANSIT or TERMINUS, by its code in R137. -/
def Circuit.role (c : Circuit) : Nat :=
  match c.sideA, c.sideB with
  | .spur _, _ => 0
  | .trunk _, .trunk _ => 1
  | .trunk _, .spur _ => 2

/-- R119: units a circuit reserves on a port. -/
def Circuit.unitsOn (c : Circuit) (p : PortId) : Nat :=
  (if c.sideA = p then c.width else 0) + (if c.sideB = p then c.width else 0)

/-- R119: units reserved on a port. -/
def State.reserved (s : State) (p : PortId) : Nat := (s.csw.circuits.map (·.unitsOn p)).sum

/-- R119: place of a port among the voice budgets. -/
def budgetIx : PortId → Fin 8
  | .trunk .east => 0
  | .trunk .west => 1
  | .spur n => ⟨n.val + 2, by omega⟩

/-- R119: a port's voice budget. -/
def State.budget (s : State) (p : PortId) : Nat := s.mge.table.voice[budgetIx p]

/-- The circuit of an id. -/
def State.circuit? (s : State) (id : Nat) : Option Circuit := s.csw.circuits.find? (·.id == id)

/-- A circuit's record replaced. -/
def State.putCircuit (s : State) (c : Circuit) : State :=
  s.setCsw { s.csw with circuits := s.csw.circuits.map fun x => if x.id = c.id then c else x }

/-! ## Sending (R121) -/

/-- What CSW puts in a frame. -/
structure CallMsg where
  subtype : Nat
  level : Nat
  zone : Nat
  tag : Nat
  payload : List Byte
  deriving DecidableEq, Repr

/-- R121: a CALL frame from this node's CSW. -/
def State.callFrame (s : State) (dst : Addr) (m : CallMsg) : Frame :=
  { Frame.built .call m.subtype m.level dst ⟨s.node, 243⟩ m.payload with zone := m.zone, tag := m.tag }

/-- R121: toward a trunk side, addressed to the neighbour's CSW and placed on that port's queue. -/
def State.callTrunk (s : State) (p : TPort) (m : CallMsg) (origin : Origin) : Bool × State :=
  match s.store (.make (.drift (s.callFrame ⟨(s.trunk p).nb.node, 243⟩ m)) m.level origin) with
  | (none, s) => (false, s)
  | (some f, s) => if s.up p then (true, s.enqueue (trunkQueue p) f) else (false, s.free f.blocks)

/-- R121: toward a spur side, addressed to a station of this node under that spur's window. -/
def State.callSpur (s : State) (n : Fin 6) (station : Nat) (m : CallMsg) (origin : Origin) : Bool × State :=
  match s.store (.make (.drift (s.callFrame ⟨s.node, station⟩ m)) m.level origin) with
  | (none, s) => (false, s)
  | (some f, s) =>
    match (allFin 16).find? fun d => s.station? n d == some station with
    | some d => s.spurTake n (.drop d) f
    | none => (false, s.noRoute f)

/-- R121: toward a port; `station` is the party's, used toward a spur. -/
def State.callSend (s : State) (p : PortId) (station : Nat) (m : CallMsg) (origin : Origin) : Bool × State :=
  match p with
  | .trunk t => s.callTrunk t m origin
  | .spur n => s.callSpur n station m origin

/-- R121: a frame of a circuit toward one of its sides. -/
def State.circuitSend (s : State) (c : Circuit) (towardA : Bool) (subtype : Nat) (payload : List Byte) : Bool × State :=
  let m : CallMsg := ⟨subtype, c.prec.level, c.zone, c.id, payload⟩
  let origin : Origin := .call c.id towardA subtype
  if towardA then s.callSend c.sideA c.partyA.station m origin else s.callSend c.sideB c.partyB.station m origin

/-! ## Release (R129) -/

/-- R126: an ORIGIN circuit of precedence EMERGENCY whose party A is this station stands in the table. -/
def State.emergencyHeld (s : State) (station : Nat) : Bool :=
  s.csw.circuits.any fun c => c.role == 0 && c.prec == .emergency && c.partyA.station == station

/-- R129: a circuit is released with a cause toward the sides named. The rule gives no order for two RELEASE frames. THE MODEL'S
CHOICE (notes/assumptions/37.md): toward side A, then toward side B. -/
def State.releaseCircuit (s : State) (c : Circuit) (cause : Nat) (towardA towardB : Bool) : State :=
  let s := if towardA then (s.circuitSend c true 3 [byte cause]).2 else s
  let s := if towardB then (s.circuitSend c false 3 [byte cause]).2 else s
  let s := s.setCsw { s.csw with circuits := s.csw.circuits.filter (·.id != c.id) }
  if c.role = 0 ∧ c.prec = .emergency ∧ !s.emergencyHeld c.partyA.station then s.clearAlarm .callEmergency c.partyA.station
  else s

/-- R121: CSW is told that a send failed. A frame that waited on a queue may fail when its circuit is gone: THE MODEL'S CHOICE
(notes/assumptions/40.md): the circuit is found by the id alone, so that one that has been given the id since is released. -/
def State.callFailed (s : State) (id : Nat) (towardA : Bool) (subtype : Nat) : State :=
  match s.circuit? id with
  | some c => if subtype ≤ 2 then s.releaseCircuit c 10 (!towardA) towardA else s
  | none => s

/-- R121: a frame of a circuit, its failure met. -/
def State.circuitPass (s : State) (c : Circuit) (towardA : Bool) (subtype : Nat) (payload : List Byte) : State :=
  let (ok, s) := s.circuitSend c towardA subtype payload
  if ok then s else s.callFailed c.id towardA subtype

/-- R133: the circuits that use a lost port are released toward their other side, in table order. -/
def State.pathLost (s : State) (p : PortId) : State :=
  (s.csw.circuits.filter fun c => c.sideA == p || c.sideB == p).foldl
    (fun s c => s.releaseCircuit c 10 (c.sideA != p) (c.sideB != p)) s

/-- R136: every circuit is released toward both sides with cause RESTART. -/
def State.callsRestart (s : State) : State :=
  s.csw.circuits.foldl (fun s c => s.releaseCircuit c 11 true true) s

/-! ## Admission (R122 to R126) -/

/-- A SETUP as read (R122). -/
structure SetupReq where
  arrival : PortId
  originating : Bool
  partyA : Addr
  partyB : Addr
  width : Nat
  precCode : Nat
  zone : Nat
  tag : Nat
  level : Nat
  source : Addr
  deriving DecidableEq, Repr

/-- R122: the request as read. -/
def State.readSetup (s : State) (p : PortId) (d : Frame) : SetupReq :=
  let originating := match p with
    | .spur _ => true
    | .trunk _ => false
  let b := Addr.ofCode (halfAt d.payload 2)
  { arrival := p
    originating
    partyA := if originating then d.src else Addr.ofCode (halfAt d.payload 0)
    partyB := if originating && b.node == 0 then { b with node := s.node } else b
    width := byteAt d.payload 4
    precCode := byteAt d.payload 5
    zone := d.zone
    tag := d.tag
    level := d.level
    source := d.src }

/-- R122, R186: the request cannot be read. -/
def SetupReq.bad (r : SetupReq) (payload : List Byte) : Bool :=
  payload.length < 6 || !(r.width == 1 || r.width == 2) || 3 < r.precCode
    || r.partyB.node == 0 || 62 < r.partyB.node || r.partyB.station == 0 || 239 < r.partyB.station
    || r.partyB == r.partyA || (!r.originating && (r.tag == 0 || 1023 < r.tag))

/-- R121: an answer back toward the port a frame arrived on. -/
def State.answerBack (s : State) (p : PortId) (station tag level cause : Nat) : State :=
  (s.callSend p station ⟨3, level, 0, tag, [byte cause]⟩ (.call 0 true 3)).2

/-- R122 to R124: a SETUP refused; a refused originating SETUP's answer has tag 0 (R121). -/
def State.refuseSetup (s : State) (r : SetupReq) (cause : Nat) : State :=
  s.answerBack r.arrival r.source.station (if r.originating then 0 else r.tag) r.level cause

/-- R122: the id allocated from a node's range, with the pointer's next place. -/
def allocId (used : List Nat) (node : Nat) : Nat → Nat → Option (Nat × Nat)
  | 0, _ => none
  | k + 1, place =>
    let id := (node - 1) * 16 + 1 + place
    if used.contains id then allocId used node k ((place + 1) % 16) else some (id, (place + 1) % 16)

/-- R122: the entry for a SETUP: its id and the pointer after it, or the cause of refusal. -/
def State.setupEntry (s : State) (r : SetupReq) : Except Nat (Nat × Nat) :=
  let used := s.csw.circuits.map (·.id)
  if r.originating then
    if 32 ≤ used.length ∨ s.node = 0 then .error 3
    else match allocId used s.node 16 s.csw.nextId with
      | some x => .ok x
      | none => .error 3
  else if used.contains r.tag then .error 2
  else if 32 ≤ used.length then .error 3
  else .ok (r.tag, s.csw.nextId)

/-- R123: side B, none for NO_ROUTE. -/
def State.setupSideB (s : State) (r : SetupReq) : Option PortId :=
  if r.partyB.node = s.node then
    match s.dropOfStation? r.partyB.station with
    | some (n, d) => if (s.spur n).takes (.drop d) then some (.spur n) else none
    | none => none
  else match r.arrival with
    | .spur _ => (s.entryPort r.partyB.node).map .trunk
    | .trunk p => if s.up p.other then some (.trunk p.other) else none

/-- R124: how far a side is short of units for a new circuit. -/
def State.shortfall (s : State) (c : Circuit) (p : PortId) : Nat := s.reserved p + c.unitsOn p - s.budget p

/-- R124: the order of candidates, lowest first: precedence, then CONNECTED after the rest, then latest first. -/
def State.victimKey (s : State) (c : Circuit) : Nat :=
  let since := if c.state = .connected then s.since c.connect else s.since c.admitted
  (c.prec.ctorIdx * 2 + flag (c.state == .connected)) * 4294967296 + since

/-- R124: the candidates on a port, in order; circuits admitted later stand first among equals. -/
def State.candidates (s : State) (c : Circuit) (p : PortId) : List Circuit :=
  (s.csw.circuits.reverse.filter fun x => 0 < x.unitsOn p && x.prec.ctorIdx < c.prec.ctorIdx).insertionSort
    fun a b => s.victimKey a ≤ s.victimKey b

/-- R124: victims added in order until they cover a shortfall on a port. -/
def coverShort (p : PortId) : Nat → List Circuit → Option (List Circuit)
  | 0, _ => some []
  | _ + 1, [] => none
  | k + 1, c :: rest => (coverShort p (k + 1 - c.unitsOn p) rest).map (c :: ·)

/-- R124: the victims that make room for a circuit, side A's first; none when a side cannot be covered. -/
def State.victims (s : State) (c : Circuit) : Option (List Circuit) :=
  let shortA := s.shortfall c c.sideA
  let shortB := s.shortfall c c.sideB
  if shortA = 0 ∧ shortB = 0 then some []
  else if c.prec = .normal then none
  else match coverShort c.sideA shortA (s.candidates c c.sideA) with
    | none => none
    | some va =>
      let freed := (va.map (·.unitsOn c.sideB)).sum
      let rest := (s.candidates c c.sideB).filter fun x => !va.contains x
      (coverShort c.sideB (shortB - freed) rest).map (va ++ ·)

/-- R125: the SETUP that CSW sends on. -/
def Circuit.setupPayload (c : Circuit) : List Byte :=
  bytes16 c.partyA.code ++ bytes16 c.partyB.code ++ [byte c.width, byte c.prec.ctorIdx]

/-- R125: a SETUP is admitted. -/
def State.admitCircuit (s : State) (c : Circuit) (nextId : Nat) : State :=
  (s.setCsw { circuits := s.csw.circuits ++ [c], nextId }).circuitPass c false 0 c.setupPayload

/-- R123 to R125: the way on, the precedence and the units for a SETUP whose entry has been found; the cause when refused. -/
def State.routeSetup (s : State) (r : SetupReq) (prec : Precedence) (id nextId : Nat) : Nat × State :=
  match s.setupSideB r with
  | none => (4, s)
  | some sideB =>
    let raised := prec.ctorIdx < 2 && s.combined r.zone == .trip
    let c : Circuit := {
      id, partyA := r.partyA, partyB := r.partyB, sideA := r.arrival, sideB, width := r.width
      prec := if raised then .zone else prec
      zone := r.zone, state := .pending, deadline := s.after Config.admitMs, admitted := s.time, connect := 0 }
    match s.victims c with
    | none => (5, s.raise .circuitRefused)
    | some vs => (0, (vs.foldl (fun s v => s.releaseCircuit v 6 true true) s).admitCircuit c nextId)

/-- R122 to R125 for a SETUP that has been read: the cause of its refusal, 0 when it is admitted. -/
def State.enterSetup (s : State) (r : SetupReq) (prec : Precedence) : Nat × State :=
  match s.setupEntry r with
  | .error cause => (cause, s)
  | .ok (id, nextId) => s.routeSetup r prec id nextId

/-- R126: the drop of a calling handset. -/
def State.callerDrop (s : State) (r : SetupReq) : Option DropRef :=
  match r.arrival with
  | .spur n => ((allFin 16).find? fun d => s.station? n d == some r.partyA.station).map (⟨n, ·⟩)
  | .trunk _ => none

/-- R126: the end of an EMERGENCY condition whose SETUP was refused. -/
def State.emergencyRefused (s : State) (r : SetupReq) : State :=
  if s.emergencyHeld r.partyA.station then s else s.clearAlarm .callEmergency r.partyA.station

/-- R122 to R126: a SETUP is taken. THE MODEL'S CHOICE (notes/assumptions/39.md): an originating EMERGENCY raises its condition once it
has passed the BAD_REQUEST tests, before its entry is sought, and a refused one's RELEASE goes before the condition's clear. -/
def State.takeSetup (s : State) (p : PortId) (d : Frame) : State :=
  let r := s.readSetup p d
  match Precedence.ofCode r.precCode with
  | none => s.refuseSetup r 12
  | some prec =>
    if r.bad d.payload then s.refuseSetup r 12
    else
      let urgent := r.originating && prec == .emergency
      let s := if urgent then s.raiseAlarm .callEmergency r.partyA.station r.zone (s.callerDrop r) else s
      let (cause, s) := s.enterSetup r prec
      if cause = 0 then s
      else
        let s := s.refuseSetup r cause
        if urgent then s.emergencyRefused r else s

/-! ## Signalling (R127 to R132) -/

/-- R120: the circuit a frame belongs to, and whether on side A. The two tests of R120 may both hold: for a local call on one spur whose
parties have one station (their node numbers then differ), and the rule prefers neither. THE MODEL'S CHOICE (notes/assumptions/43.md): such
a frame belongs to side A. -/
def State.callSide (s : State) (p : PortId) (d : Frame) : Option (Circuit × Bool) :=
  let own (side : PortId) (party : Addr) : Bool := side == p && (match side with
    | .spur _ => d.src.station == party.station
    | .trunk _ => true)
  match s.circuit? d.tag with
  | some c =>
    if own c.sideA c.partyA then some (c, true)
    else if own c.sideB c.partyB then some (c, false)
    else none
  | none => none

/-- R127: ALERT (`connect` false) or CONNECT from side B. -/
def State.takeProgress (s : State) (connect : Bool) (p : PortId) (d : Frame) : State :=
  match s.callSide p d with
  | none => s.answerBack p d.src.station d.tag d.level 9
  | some (_, true) => s
  | some (c, false) =>
    if c.state = .connected then s
    else if connect then
      (s.putCircuit { c with state := .connected, connect := s.time, deadline := s.after Config.idleMs }).circuitPass c true 2 []
    else if c.state = .pending then
      (s.putCircuit { c with state := .alerting, deadline := s.after Config.alertMs }).circuitPass c true 1 []
    else s.circuitPass c true 1 []

/-- R128: a VOICE. -/
def State.takeVoice (s : State) (p : PortId) (d : Frame) : State :=
  match s.callSide p d with
  | some (c, fromA) =>
    if c.state = .connected then
      (s.putCircuit { c with deadline := s.after Config.idleMs }).circuitPass c (!fromA) 4 d.payload
    else s
  | none => s

/-- R130: a RELEASE. One of tag 0 releases the PENDING circuits of its handset in an order that the rule does not give: THE MODEL'S
CHOICE (notes/assumptions/37.md): table order. -/
def State.takeRelease (s : State) (p : PortId) (d : Frame) : State :=
  let cause := byteAt d.payload 0
  match p, d.tag with
  | .spur n, 0 =>
    (s.csw.circuits.filter fun c =>
      c.state == .pending && c.role == 0 && c.sideA == .spur n && c.partyA == d.src).foldl
        (fun s c => s.releaseCircuit c cause false true) s
  | _, _ =>
    match s.callSide p d with
    | some (c, fromA) => s.releaseCircuit c cause (!fromA) fromA
    | none => s

/-- R120: a CALL frame that CSW discards whatever its row. -/
def Frame.callDiscard (d : Frame) : Bool := d.dst.node == 63 || 5 ≤ d.subtype

/-- A CSW row: its subtype's frames, and those that R120 discards. -/
def State.callRow (s : State) (u : Upsets) (subtype : Nat) (act : PortId → Frame → State → State) : State :=
  s.takeRow 243 u (fun d => d.callDiscard || d.subtype == subtype) fun f d s =>
    if d.callDiscard then s
    else match f.arrival with
      | some p => act p d s
      | none => s

/-- CALL_SETUP_RECEIVE (R122). -/
def execCallSetupReceive (u : Upsets) (s : State) : Host.Outcome State Fault Refusal :=
  done (s.callRow u 0 fun p d s => s.takeSetup p d)

/-- CALL_ALERT_RECEIVE (R127). -/
def execCallAlertReceive (u : Upsets) (s : State) : Host.Outcome State Fault Refusal :=
  done (s.callRow u 1 fun p d s => s.takeProgress false p d)

/-- CALL_CONNECT_RECEIVE (R127). -/
def execCallConnectReceive (u : Upsets) (s : State) : Host.Outcome State Fault Refusal :=
  done (s.callRow u 2 fun p d s => s.takeProgress true p d)

/-- CALL_VOICE_RECEIVE (R128). -/
def execCallVoiceReceive (u : Upsets) (s : State) : Host.Outcome State Fault Refusal :=
  done (s.callRow u 4 fun p d s => s.takeVoice p d)

/-- CALL_RELEASE_RECEIVE (R130). -/
def execCallReleaseReceive (u : Upsets) (s : State) : Host.Outcome State Fault Refusal :=
  done (s.callRow u 3 fun p d s => s.takeRelease p d)

/-- CIRCUIT_DEADLINE_EXPIRY (R131). -/
def execCircuitDeadlineExpiry (id : Nat) (s : State) : Host.Outcome State Fault Refusal :=
  done (match s.circuit? id with
    | some c =>
      if s.reached c.deadline then s.releaseCircuit c (if c.state = .connected then 8 else 7) true true else s
    | none => s)

end Sys2Proof.Machine
end

