-- ==== Sys2Proof/Machine/Trunk.lean ====
section
/-! DEFINITION. The trunk ring (chapter 1): link states, HELLO, arrivals and forwarding, the broadcast memory, the transmitter, and
what other blocks are told when a port leaves or enters UP. -/

namespace Sys2Proof.Machine

/-! ## HELLO (R4) -/

/-- R4: the HELLO as built at this moment. -/
def State.hello (s : State) : Frame :=
  let m := s.mge.table
  Frame.built .ident 0 15 ⟨63, 0⟩ ⟨m.node, 0⟩
    (bytes16 m.ring ++ [byte m.node, byte (flag s.wrapFlag + 2 * flag s.islandFlag)])

/-- R4: a HELLO falls due: it is sent, or waits for the transmitter. An earlier one that still waits is not sent beside it. -/
def State.sendHello (s : State) (p : TPort) : State :=
  let t := s.trunk p
  match t.tx with
  | none => s.setTrunk p { t with tx := some (.hello s.hello), helloWaiting := false }
  | some _ => s.setTrunk p { t with helloWaiting := true }

/-! ## Leaving and entering UP (R9, R18, R19) -/

/-- R18: a frame being sent is cut off; its blocks are freed. -/
def State.trunkCutOff (s : State) (p : TPort) : State :=
  let t := s.trunk p
  let s := s.setTrunk p { t with tx := none }
  match t.tx with
  | some (.stored f) => s.free f.blocks
  | _ => s

/-- R19: a frame that goes no further frees its blocks; NO_ROUTE where the rule raises it. -/
def State.dropDecided (s : State) (f : Stored) (event : Bool) : State :=
  let s := s.free f.blocks
  if event then s.raise .noRoute else s

/-- R19: one frame of the queue of a port that has left UP is decided again. -/
def State.redecide (s : State) (p : TPort) (f : Stored) (d : Frame) : State :=
  let unicast := d.dst.node != 63
  match f.origin with
  | .transit _ =>
    if d.wrapped then s.dropDecided f unicast
    else if s.up p.other then s.enqueue (trunkQueue p.other) { f with body := .drift { d with wrapped := true } }
    else s.dropDecided f unicast
  | .call _ _ _ => s.dropDecided f false
  | .spur => if s.up p.other then s.enqueue (trunkQueue p.other) f else s.dropDecided f true
  | _ => if s.up p.other then s.enqueue (trunkQueue p.other) f else s.dropDecided f false

/-- R19, R21: whether the origin of a frame is told that its send has failed. -/
def State.redecideFails (s : State) (p : TPort) (f : Stored) : Bool :=
  match f.origin with
  | .call _ _ _ => true
  | .announce _ => !s.up p.other
  | _ => false

/-- R21: the originating block of a frame is told that its send failed. AEV, HLC and MGE do nothing further. -/
def State.tellFailed (s : State) (o : Origin) : State :=
  match o with
  | .announce serial => s.announceFailed serial
  | .call id towardA subtype => s.callFailed id towardA subtype
  | _ => s

/-- R19: the queue of a port that has left UP is decided again from head to tail, and the failures are reported. -/
def State.redecideQueue (s : State) (p : TPort) : State :=
  let q := trunkQueue p
  let fs := (s.queue q).frames
  let failed := fs.filter (s.redecideFails p)
  let s := s.setQueue q { s.queue q with frames := [] }
  let s := fs.foldl (fun s f => match f.body with
    | .drift d => s.redecide p f d
    | .raw _ => s.free f.blocks) s
  failed.foldl (fun s f => s.tellFailed f.origin) s

/-- The source id of a trunk port's TRUNK_LOSS (R9). -/
def lossId : TPort → Nat
  | .east => 1
  | .west => 2

/-- R9: what follows when a trunk port has left UP. -/
def State.leaveUp (s : State) (p : TPort) : State :=
  let s := s.setTrunk p { s.trunk p with latch := false }
  let s := (s.trunkCutOff p).redecideQueue p
  let s := (s.pathLost (.trunk p)).raiseAlarm .trunkLoss (lossId p) 0 none
  if s.up p.other then s else s.enterIsland

/-- R9: what follows when a trunk port has entered UP. -/
def State.enterUp (s : State) (p : TPort) : State :=
  let s := s.clearAlarm .trunkLoss (lossId p)
  if s.up p.other then s else s.leaveIsland

/-- R1: a change of a port's state, with its effects on other blocks. -/
def State.trunkTo (s : State) (p : TPort) (st : LinkState) (f : TrunkPort → TrunkPort) : State :=
  let t := s.trunk p
  let s := (s.setTrunk p { f t with state := st, entered := s.time }).raise .trunkChange
  if t.state = .up ∧ st ≠ .up then s.leaveUp p
  else if t.state ≠ .up ∧ st = .up then s.enterUp p
  else s

/-! ## Link states (R2, R3, R6, R8) -/

/-- R3: entering IDENT_WAIT. -/
def State.toIdentWait (s : State) (p : TPort) : State :=
  (s.trunkTo p .identWait fun t => { t with
    helloDue := some (s.after Config.helloMs), identDue := some (s.after Config.identMs) }).sendHello p

/-- R3: a port in TRAINING goes on at once when its lock is high. -/
def State.lockTest (s : State) (p : TPort) : State :=
  if (s.trunk p).state = .training ∧ (s.trunk p).lock then s.toIdentWait p else s

/-- R2: from DOWN to TRAINING. -/
def State.toTraining (s : State) (p : TPort) : State :=
  (s.trunkTo p .training fun t => { t with helloDue := some (s.after Config.helloMs) }).lockTest p

/-- R2: into DOWN, and on to TRAINING at once while the signal is high. -/
def State.toDown (s : State) (p : TPort) (cause : LinkCause) : State :=
  let s := s.trunkTo p .down fun t => { t with
    cause, helloDue := none, identDue := none, silenceDue := none, helloWaiting := false }
  let s := s.trunkCutOff p
  if (s.trunk p).signal then s.toTraining p else s

/-- TRUNK_SIGNAL_RISE (R2). -/
def execTrunkSignalRise (p : TPort) (s : State) : Host.Outcome State Fault Refusal :=
  let s := s.setTrunk p { s.trunk p with signal := true }
  done (if (s.trunk p).state = .down then s.toTraining p else s)

/-- TRUNK_SIGNAL_LOSS (R2). -/
def execTrunkSignalLoss (p : TPort) (s : State) : Host.Outcome State Fault Refusal :=
  done (
    if (s.trunk p).signal then (s.setTrunk p { s.trunk p with signal := false }).toDown p .signalLost else s)

/-- TRUNK_LOCK_RISE (R3). -/
def execTrunkLockRise (p : TPort) (s : State) : Host.Outcome State Fault Refusal :=
  done ((s.setTrunk p { s.trunk p with lock := true }).lockTest p)

/-- TRUNK_LOCK_LOSS (R3). -/
def execTrunkLockLoss (p : TPort) (s : State) : Host.Outcome State Fault Refusal :=
  let s := s.setTrunk p { s.trunk p with lock := false }
  let st := (s.trunk p).state
  done (
    if st = .identWait ∨ st = .up then
      s.trunkTo p .training fun t => { t with cause := .lockLost, identDue := none, silenceDue := none }
    else s)

/-- HELLO_TIMER_EXPIRY (R4). -/
def execHelloTimerExpiry (p : TPort) (s : State) : Host.Outcome State Fault Refusal :=
  let t := s.trunk p
  done (
    if t.state ≠ .down ∧ s.expired t.helloDue then
      (s.setTrunk p { t with helloDue := some (s.after Config.helloMs) }).sendHello p
    else s)

/-- IDENT_TIMER_EXPIRY (R6). A HELLO of the same moment is lost: `TrunkPort.passing`. -/
def execIdentTimerExpiry (p : TPort) (s : State) : Host.Outcome State Fault Refusal :=
  let t := s.trunk p
  done (
    if t.state = .identWait ∧ s.expired t.identDue then
      (s.trunkTo p .training fun t => { t with cause := .identTimeout, identDue := none }).lockTest p
    else s)

/-- SILENCE_TIMER_EXPIRY (R8). A frame of the same moment is lost: `TrunkPort.passing`. -/
def execSilenceTimerExpiry (p : TPort) (s : State) : Host.Outcome State Fault Refusal :=
  let t := s.trunk p
  done (if t.state = .up ∧ s.expired t.silenceDue then s.toDown p .silent else s)

/-! ## Arrivals (R5, R12 to R17) -/

/-- R5: the neighbour record of a HELLO. -/
def helloNeighbour (d : Frame) (now : Time) : Neighbour where
  valid := true
  ring := halfAt d.payload 0
  node := byteAt d.payload 2
  wrap := byteAt d.payload 3 % 2 == 1
  island := byteAt d.payload 3 / 2 % 2 == 1
  lastHello := now

/-- R5: the test of a neighbour against this node; none is acceptable. -/
def NodeTable.helloTest (m : NodeTable) (nb : Neighbour) : Option LinkCause :=
  if m.node = 0 ∨ nb.node = 0 then none
  else if nb.ring ≠ m.ring then some .ringMismatch
  else if nb.node = m.node then some .nodeClash
  else none

/-- R5: a HELLO is taken. -/
def State.takeHello (s : State) (p : TPort) (d : Frame) : State :=
  let nb := helloNeighbour d s.time
  let s := s.setTrunk p { s.trunk p with nb }
  match (s.trunk p).state, s.mge.table.helloTest nb with
  | .identWait, none =>
    s.trunkTo p .up fun t => { t with identDue := none, silenceDue := some (s.after Config.silenceMs) }
  | .identWait, some cause => s.trunkTo p .mismatch fun t => { t with cause, identDue := none }
  | .up, some cause => s.trunkTo p .mismatch fun t => { t with cause, silenceDue := none }
  | _, _ => s

/-- A stored frame waits for CLS (R61). -/
def State.waitCls (s : State) (w : Waiting) : State := s.setCls { s.cls with waiting := s.cls.waiting ++ [w] }

/-- R13: a frame from the trunk that is handed to CLS. -/
def State.deliverTrunk (s : State) (p : TPort) (f : Stored) : State :=
  s.waitCls { port := .trunk p, drop := 0, kind := .native, zone := 0, frame := f }

/-- R14, R15: transit unicast. -/
def State.transit (s : State) (p : TPort) (f : Stored) (d : Frame) : State :=
  if d.src.node = s.node ∧ !d.wrapped then s.noRoute f
  else if d.hop ≤ 1 then s.noRoute f
  else if s.up p.other then s.enqueue (trunkQueue p.other) { f with body := .drift { d with hop := d.hop - 1 } }
  else if d.wrapped then s.noRoute f
  else s.enqueue (trunkQueue p) { f with body := .drift { d with hop := d.hop - 1, wrapped := true } }

/-- R17: the entry that records a broadcast. -/
def Frame.memoryEntry (d : Frame) (now : Time) : BroadcastEntry where
  src := d.src
  cls := d.cls
  subtype := d.subtype
  tag := d.tag
  len := d.payload.length
  check := crc16 d.payload
  time := now

/-- R17: an entry matches a frame. -/
def BroadcastEntry.matches (e : BroadcastEntry) (d : Frame) : Bool := e == d.memoryEntry e.time

/-- R17: recording; the oldest of a full memory goes first. -/
def recordBroadcast (l : List BroadcastEntry) (e : BroadcastEntry) : List BroadcastEntry :=
  (if Config.broadcastEntries ≤ l.length then l.drop 1 else l) ++ [e]

/-- R16, R17: whether a broadcast is delivered here, with the broadcast memory after it. R17 records a broadcast when R16 delivers it, and
does not say whether one counts as delivered when FBF then refuses its local copy (R72). THE MODEL'S CHOICE (notes/assumptions/16.md): it
does, so that its entry is appended before the copy is offered and stays when the copy is refused. -/
def State.broadcastDelivery (s : State) (d : Frame) : Bool × State :=
  if d.src.node = s.node then (false, s)
  else if !d.wrapped then (true, s.setBroadcasts (recordBroadcast s.broadcasts (d.memoryEntry s.time)))
  else match s.broadcasts.find? (·.matches d) with
    | some e => (false, s.setBroadcasts (s.broadcasts.erase e))
    | none => (true, s)

/-- R16: the queue and form in which a broadcast is forwarded, if it is. -/
def State.broadcastForward (s : State) (p : TPort) (d : Frame) : Option (Fin 9 × Frame) :=
  if d.src.node = s.node ∧ !d.wrapped then none
  else if d.hop ≤ 1 then none
  else if s.up p.other then some (trunkQueue p.other, { d with hop := d.hop - 1 })
  else if d.wrapped then none
  else some (trunkQueue p, { d with hop := d.hop - 1, wrapped := true })

/-- R16, R72: the trunk copy of a broadcast; whether it holds the stored blocks. -/
def State.forwardCopy (s : State) (f : Stored) (fw : Option (Fin 9 × Frame)) : Bool × State :=
  match fw with
  | some (q, d) => s.place q { f with body := .drift d }
  | none => (false, s)

/-- R16: the copy of a broadcast to be delivered waits for CLS, in blocks of its own (R72): the stored ones when no trunk copy keeps
them, and otherwise those for which it is offered at once (THE MODEL'S CHOICE of the moment: notes/assumptions/16.md). -/
def State.deliverCopy (s : State) (p : TPort) (f : Stored) : State :=
  match s.withBlocks f with
  | (some g, s) => s.deliverTrunk p g
  | (none, s) => s

/-- R16: a broadcast from the trunk. -/
def State.broadcast (s : State) (p : TPort) (f : Stored) (d : Frame) : State :=
  let (deliver, s) := s.broadcastDelivery d
  let (placed, s) := s.forwardCopy f (s.broadcastForward p d)
  if deliver then s.deliverCopy p { f with blocks := if placed then [] else f.blocks }
  else if placed then s
  else s.free f.blocks

/-- R12 to R16: a frame that has passed the checks of an UP port and been stored. -/
def State.trunkRoute (s : State) (p : TPort) (f : Stored) (d : Frame) : State :=
  if d.dst.node = s.node then s.deliverTrunk p f
  else if d.dst.node = 63 then s.broadcast p f d
  else s.transit p f d

/-- R7: a frame with a correct CRC restarts the silence timer of an UP port. -/
def State.heard (s : State) (p : TPort) (bytes : List Byte) : State :=
  let t := s.trunk p
  if t.state = .up ∧ crcGood bytes then s.setTrunk p { t with silenceDue := some (s.after Config.silenceMs) } else s

/-- R12: the port receives. -/
def LinkState.receives : LinkState → Bool
  | .identWait => true
  | .up => true
  | .mismatch => true
  | .down => false
  | .training => false

/-- R6, R8: the moment in which an ident or silence expiry has taken the port through TRAINING, where it does not receive. The step of
the expiry takes the port on to IDENT_WAIT while its lock is high (R3); a frame that reaches the port together with the expiry, and after
it, meets TRAINING and is lost. 'Together' is read as 'in one millisecond of the time base' (DEDUCED: notes/assumptions/42.md). -/
def TrunkPort.passing (t : TrunkPort) (now : Time) : Bool :=
  t.state == .identWait && t.entered == now && (t.cause == .identTimeout || t.cause == .silent)

/-- R6, R8, R12: the port takes a frame that arrives now. -/
def TrunkPort.listens (t : TrunkPort) (now : Time) : Bool := t.state.receives && !t.passing now

/-- R12: the frame that received bytes carry, when they pass the arrival checks of a trunk port. -/
def trunkCheck (bytes : List Byte) : Option Frame :=
  match Frame.parse bytes with
  | some d => if d.trunkAccepted then some d else none
  | none => none

/-- R12: bytes received on a trunk port. -/
def State.trunkArrival (s : State) (p : TPort) (bytes : List Byte) : State :=
  if !(s.trunk p).listens s.time then s
  else
    let s := s.heard p bytes
    match trunkCheck bytes with
    | none => s.raise .malformed
    | some d =>
      if d.isHello then s.takeHello p d
      else if (s.trunk p).state ≠ .up then s
      else match s.store { Stored.make (.drift d) d.level (.transit p) with arrival := some (.trunk p) } with
        | (some f, s) => s.trunkRoute p f d
        | (none, s) => s

/-- TRUNK_FRAME_RECEIVE (R12). -/
def execTrunkFrameReceive (p : TPort) (bytes : List Byte) (s : State) : Host.Outcome State Fault Refusal :=
  done (s.trunkArrival p bytes)

/-- HELLO_RECEIVE (R5): the arrival of a frame whose header says HELLO; bytes that carry no HELLO are no such event. -/
def execHelloReceive (p : TPort) (bytes : List Byte) (s : State) : Host.Outcome State Fault Refusal :=
  done (if byteAt bytes 0 / 16 = 0 ∧ byteAt bytes 6 % 8 = 0 ∧ bytes ≠ [] then s.trunkArrival p bytes else s)

/-- BROADCAST_MEMORY_AGEING (R17). -/
def execBroadcastMemoryAgeing (s : State) : Host.Outcome State Fault Refusal :=
  done (s.setBroadcasts (s.broadcasts.filter fun e => s.since e.time < Config.broadcastMs))

/-! ## The transmitter (R18, R82) -/

/-- What a turn at a queue comes to. -/
inductive Turn where
  /-- The queue has nothing to take. -/
  | nothing
  /-- The frame chosen could not be read, and has been discarded (R74). -/
  | spoiled
  /-- The frame handed over. -/
  | frame (f : Stored)
  deriving DecidableEq, Repr

/-- R82, R74: EGS chooses the head of a trunk or spur queue, discards stale voice and chooses again, and hands over the frame that
passes, read. -/
def State.egressTakeFor : Nat → Fin 9 → State → Turn × State
  | 0, _, s => (.nothing, s)
  | k + 1, q, s =>
    match (s.queue q).frames with
    | [] => (.nothing, s)
    | f :: _ =>
      let s := s.unqueue q f
      if s.staleVoice f then State.egressTakeFor k q (s.discardStale q f)
      else match s.readFrame f with
        | (true, s) => (.frame f, s)
        | (false, s) => (.spoiled, s)

/-- R82. -/
def State.egressTake (s : State) (q : Fin 9) : Turn × State := State.egressTakeFor (s.queue q).frames.length q s

/-- R18: the freed transmitter takes its next frame. When that cannot be read, the transmitter is free again (R74). -/
def State.trunkNextFor : Nat → TPort → State → State
  | 0, _, s => s
  | k + 1, p, s =>
    let t := s.trunk p
    if t.state = .down then s
    else if t.helloWaiting then s.setTrunk p { t with helloWaiting := false, tx := some (.hello s.hello) }
    else if t.state = .up then
      match s.egressTake (trunkQueue p) with
      | (.nothing, s) => s
      | (.spoiled, s) => State.trunkNextFor k p s
      | (.frame f, s) => s.setTrunk p { s.trunk p with tx := some (.stored f) }
    else s

/-- R18. -/
def State.trunkNext (s : State) (p : TPort) : State := State.trunkNextFor (s.turns (trunkQueue p)) p s

/-- TRUNK_TRANSMIT_DONE (R18): the frame being sent has left, and the transmitter takes its next. -/
def execTrunkTransmitDone (p : TPort) (u : Upsets) (s : State) : Host.Outcome State Fault Refusal :=
  done (((s.upsets u).trunkCutOff p).trunkNext p)

end Sys2Proof.Machine
end

