-- ==== Sys2Proof/Machine/Spur.lean ====
section
/-! DEFINITION. The spur ports (chapter 2): attachment and power, upstream frames, output reconciliation, the attention poll, the
line arbiter, and the reports ALC takes from the poll (R171). -/

namespace Sys2Proof.Machine

/-! ## Changes of attach state -/

/-- R22: a change of attach state. -/
def State.spurTo (s : State) (n : Fin 6) (st : AttachState) (f : SpurPort → SpurPort) : State :=
  (s.setSpur n { f (s.spur n) with state := st, entered := s.time }).raise .spurChange

/-- R26: the half-watts of a power class. -/
def halfWatts : Nat → Nat
  | 1 => 2
  | 2 => 5
  | 3 => 10
  | _ => 0

/-- R27: the half-watts granted. -/
def State.grantedWatts (s : State) : Nat := (s.spurs.toList.map fun p => halfWatts p.granted).sum

/-- R26: a class is granted. -/
def State.grantPower (s : State) (n : Fin 6) (cls : Nat) : State :=
  s.spurTo n .powered fun p => { p with granted := cls, attachDue := some (s.after Config.readyMs) }

/-- R26, R27: a class fits the budget. -/
def State.powerFits (s : State) (cls : Nat) : Bool := s.grantedWatts + halfWatts cls ≤ s.mge.table.budget

/-- R27: the re-examination of the ports in POWER_DENIED, ascending. -/
def State.reexamine (s : State) : State :=
  (allFin 6).foldl (fun s n =>
    match (s.spur n).state, (s.spur n).descriptor with
    | .powerDenied, some d => if s.powerFits d.power then s.grantPower n d.power else s
    | _, _ => s) s

/-- R40: a poll is abandoned without an event. -/
def Poll.abandon (p : Poll) : Poll := { p with state := .idle, due := none, waiting := false, sending := false }

/-- R29: a drop record of a port that leaves ACTIVE. -/
def Drop.unpowered (r : Drop) : Drop :=
  { r with present := false, confirmed := 0, out := .noOutput, sent := 0, retry := 0, faultReported := false,
           mismatched := false }

/-- R23: a drop record as SPUR_RESET leaves it. -/
def Drop.reset (r : Drop) : Drop := { r.unpowered with kind := .native }

/-- The drops with fault reported set. -/
def SpurPort.reportedDrops (p : SpurPort) : List (Fin 16) := (allFin 16).filter fun d => p.drops[d].faultReported

/-- R29, R41: ALC is told that drops' OUTPUT_UNCONFIRMED conditions have cleared. The rules give no order for several drops of one
step, which decides the entry that an IDLE pacer announces first. THE MODEL'S CHOICE (notes/assumptions/37.md): ascending drop. -/
def State.clearUnconfirmed (s : State) (n : Fin 6) (ds : List (Fin 16)) : State :=
  ds.foldl (fun s d => s.clearAlarm .outputUnconfirmed (dropId n d)) s

/-- A frame being sent on a line is cut off; its blocks are freed. -/
def State.spurCutOff (s : State) (n : Fin 6) : State :=
  let p := s.spur n
  let s := s.setSpur n { p with tx := none }
  match p.tx with
  | some (.stored f) => s.free f.blocks
  | _ => s

/-- Every frame on a queue is discarded without an event (R29, R41, R83). The rules give the frames of one queue no order, and each
frees its blocks to the tail of the pool (R73): THE MODEL'S CHOICE (notes/assumptions/37.md): from the head of the queue to its tail. -/
def State.flushQueue (s : State) (q : Fin 9) : State :=
  let x := s.queue q
  x.frames.foldl (fun s f => s.free f.blocks) (s.setQueue q { x with frames := [] })

/-- R29: what follows when a port has left ACTIVE; `was` is its record before. -/
def State.leaveActive (s : State) (n : Fin 6) (was : SpurPort) : State :=
  let p := s.spur n
  let s := s.setSpur n { p with
    poll := p.poll.abandon
    slots := Vector.replicate 4 none
    setsWaiting := []
    drops := vmap Drop.unpowered p.drops }
  let s := s.clearUnconfirmed n was.reportedDrops
  ((s.flushQueue (spurQueue n)).spurCutOff n).pathLost (.spur n)

/-- R29, when the port was ACTIVE; a frame that the port itself was sending is cut off in any case. -/
def State.leaveActiveIf (s : State) (n : Fin 6) (was : SpurPort) : State :=
  if was.state = .active then s.leaveActive n was else s.setSpur n { s.spur n with tx := none }

/-- The port draws power (R27). -/
def AttachState.powered? : AttachState → Bool
  | .powered => true
  | .active => true
  | _ => false

/-- R22: the states in which a port probes its line. -/
def AttachState.probed? : AttachState → Bool
  | .interrogating => true
  | .powerDenied => true
  | _ => false

/-- R22: the probe power output Sn_PRB of a port. -/
def SpurPort.prb (p : SpurPort) : Bool := p.state.probed?

/-- R22: the line power output Sn_PWR of a port. -/
def SpurPort.pwr (p : SpurPort) : Bool := p.state.powered?

/-- R30: a port enters FAULTED. -/
def State.toFaulted (s : State) (n : Fin 6) (cause : SpurFault) : State :=
  let was := s.spur n
  let s := s.spurTo n .faulted fun p => { p with
    fault := cause, attachDue := none, granted := 0, describeWaiting := false }
  let s := (s.leaveActiveIf n was).raiseAlarm .spurFault (n.val + 1) 0 none
  if was.state.powered? then s.reexamine else s

/-- R24, R41: what a port leaves behind when it goes to EMPTY: its SPUR_FAULT condition and its power. -/
def State.emptied (s : State) (n : Fin 6) (was : AttachState) : State :=
  let s := if was = .faulted then s.clearAlarm .spurFault (n.val + 1) else s
  if was.powered? then s.reexamine else s

/-- R24: from EMPTY to DETECTED. -/
def State.toDetected (s : State) (n : Fin 6) : State :=
  s.spurTo n .detected fun p => { p with attachDue := some (s.after Config.detectMs) }

/-- SPUR_PRESENCE_RISE (R24). -/
def execSpurPresenceRise (n : Fin 6) (s : State) : Host.Outcome State Fault Refusal :=
  let s := s.setSpur n { s.spur n with pres := true }
  done (if (s.spur n).state = .empty then s.toDetected n else s)

/-- R24: presence falls in a state other than EMPTY. -/
def State.presenceLost (s : State) (n : Fin 6) : State :=
  let was := s.spur n
  let s := s.spurTo n .empty fun p => { p with
    attachDue := none, descriptor := none, tries := 0, granted := 0, describeWaiting := false
    drops := vmap Drop.reset p.drops }
  (s.leaveActiveIf n was).emptied n was.state

/-- SPUR_PRESENCE_FALL (R24). -/
def execSpurPresenceFall (n : Fin 6) (s : State) : Host.Outcome State Fault Refusal :=
  let s := s.setSpur n { s.spur n with pres := false }
  done (if (s.spur n).state = .empty then s else s.presenceLost n)

/-- R25: a DESCRIBE is placed for the transmitter; the attach timer starts when it has left. -/
def SpurPort.describe (p : SpurPort) (tries : Nat) : SpurPort :=
  { p with tries, describeWaiting := true, attachDue := none }

/-- DETECT_TIMER_EXPIRY (R25). -/
def execDetectTimerExpiry (n : Fin 6) (s : State) : Host.Outcome State Fault Refusal :=
  done (
    if (s.spur n).state = .detected ∧ s.expired (s.spur n).attachDue then
      s.spurTo n .interrogating fun p => p.describe 1
    else s)

/-- DESCRIBE_TIMER_EXPIRY (R25). -/
def execDescribeTimerExpiry (n : Fin 6) (s : State) : Host.Outcome State Fault Refusal :=
  let p := s.spur n
  done (
    if p.state = .interrogating ∧ s.expired p.attachDue then
      if p.tries < 3 then s.setSpur n (p.describe (p.tries + 1)) else s.toFaulted n .noDescriptor
    else s)

/-- READY_TIMER_EXPIRY (R28). -/
def execReadyTimerExpiry (n : Fin 6) (s : State) : Host.Outcome State Fault Refusal :=
  done (
    if (s.spur n).state = .powered ∧ s.expired (s.spur n).attachDue then s.toFaulted n .noReady else s)

/-- SPUR_OVERCURRENT (R28). -/
def execSpurOvercurrent (n : Fin 6) (low : Bool) (s : State) : Host.Outcome State Fault Refusal :=
  let s := s.setSpur n { s.spur n with ocLow := low }
  done (if low && (s.spur n).state.powered? then s.toFaulted n .overcurrent else s)

/-! ## The line head: DESCRIPTOR and READY -/

/-- Section 11.3: the kind that a DESCRIPTOR gives for a drop; none is invalid. -/
def descriptorKind (payload : List Byte) (d : Fin 16) : Option DropKind :=
  DropKind.ofCode ((halfAt payload 3 * 65536 + halfAt payload 5) / 4 ^ d.val % 4)

/-- R26, R187: a DESCRIPTOR's payload, when it is valid. -/
def descriptorOf (payload : List Byte) : Option Descriptor :=
  let map : Half := BitVec.ofNat 16 (halfAt payload 1)
  let power := byteAt payload 0
  if payload.length < 7 ∨ power = 0 ∨ 3 < power then none
  else if (allFin 16).any fun d => map.getLsbD d.val && (descriptorKind payload d).isNone then none
  else some { power, map, kinds := vgen fun d => (descriptorKind payload d).getD .native }

/-- R26: a DESCRIPTOR is taken. R33 withdraws no DESCRIBE that is already in the transmitter, and the port sends nothing in POWERED and
POWER_DENIED (section 2.3). THE MODEL'S CHOICE (notes/assumptions/14.md): such a DESCRIBE is left there to finish; one that only waits
does not go. -/
def State.takeDescriptor (s : State) (n : Fin 6) (payload : List Byte) : State :=
  match descriptorOf payload with
  | none => s.raise .pollError
  | some d =>
    let s := s.setSpur n { s.spur n with attachDue := none, describeWaiting := false, descriptor := some d }
    if s.powerFits d.power then s.grantPower n d.power
    else (s.spurTo n .powerDenied id).raise .powerDenied

/-- R29: a drop record set from the descriptor on entering ACTIVE. -/
def Descriptor.enter (x : Descriptor) (d : Fin 16) (r : Drop) : Drop :=
  let present := x.map.getLsbD d.val
  let kind := if present then x.kinds[d] else .native
  let r := { r with present, kind, sent := 0, retry := 0, mismatched := false }
  if present && kind != .foreign then r.compare else { r with out := .noOutput }

/-- R28, R29: READY takes a POWERED port to ACTIVE. -/
def State.toActive (s : State) (n : Fin 6) : State :=
  s.spurTo n .active fun p =>
    let p := { p with attachDue := none, state := .active }
    match p.descriptor with
    | some x => { p with drops := vmapIdx x.enter p.drops }.takeSlots
    | none => p

/-! ## Output reconciliation (R35, R36) -/

/-- R36: the drop gives up: its slot is free, and its OUTPUT_UNCONFIRMED condition is raised unless reported already. -/
def State.giveUp (s : State) (n : Fin 6) (d : Fin 16) : State :=
  let p := s.spur n
  let r := p.drops[d]
  let s := s.setSpur n (p.setDrop d { r with out := .unconfirmed, faultReported := true, mismatched := false })
  if r.faultReported then s else s.raiseAlarm .outputUnconfirmed (dropId n d) r.zone (some ⟨n, d⟩)

/-- R34: the free slots of a port are taken. -/
def State.takeSlots (s : State) (n : Fin 6) : State := s.setSpur n (s.spur n).takeSlots

/-- R35: the record of a drop that holds a slot whose OUTPUT_SET has been sent, after it confirms a mask; whether it gives up. R23 ranges the
retry count 0 to 3, and R35 increases it before the test against the limit. THE MODEL'S CHOICE (notes/assumptions/45.md): the record keeps
the increased count, 4 where the count was 3. -/
def Drop.answer (r : Drop) (mask : BitVec 4) (limit : Nat) : Bool × Drop :=
  if mask = r.sent then (false, { r with mismatched := false }.compare)
  else if limit < r.retry + 1 then
    (true, { r with retry := r.retry + 1, out := .unconfirmed, faultReported := true, mismatched := false })
  else (false, { r with retry := r.retry + 1, out := .pending, mismatched := true })

/-- R35: the slot that a drop holds, when an OUTPUT_SET has been sent since it took it. -/
def SpurPort.sentSlot (p : SpurPort) (d : Fin 16) : Option (Fin 4) :=
  match p.slotOf d with
  | some k => if (p.slots[k].map Slot.sent).getD false then some k else none
  | none => none

/-- R35: the port after an OUTPUT_CONFIRM(mask) from a reconciled drop; whether the drop gives up. -/
def SpurPort.confirm (p : SpurPort) (d : Fin 16) (mask : BitVec 4) : Bool × SpurPort :=
  let r := { p.drops[d] with confirmed := mask, faultReported := false }
  match r.out with
  | .inFlight =>
    match p.sentSlot d with
    | some k =>
      let (gaveUp, r) := r.answer mask p.retryLimit
      (gaveUp, (p.freeSlot k).setDrop d r)
    | none => (false, p.setDrop d r)
  | .noOutput => (false, p.setDrop d r)
  | _ => (false, p.setDrop d r.compare)

/-- R35: an OUTPUT_CONFIRM(mask) from a reconciled drop. A condition reported before it clears; one that the drop gives up on now is
raised anew. THE MODEL'S CHOICE (notes/assumptions/19.md): the drop's new state first, then ALC's clear with all that it drives, then
the raise. -/
def State.takeConfirm (s : State) (n : Fin 6) (d : Fin 16) (mask : BitVec 4) : State :=
  let r := (s.spur n).drops[d]
  let (gaveUp, p) := (s.spur n).confirm d mask
  let s := s.setSpur n p
  let s := if r.faultReported then s.clearAlarm .outputUnconfirmed (dropId n d) else s
  let s := if gaveUp then s.raiseAlarm .outputUnconfirmed (dropId n d) r.zone (some ⟨n, d⟩) else s
  s.takeSlots n

/-- CONFIRM_TIMER_EXPIRY (R36). A slot given up is taken again (R34) once ALC has the condition: notes/assumptions/41.md. -/
def execConfirmTimerExpiry (n : Fin 6) (k : Fin 4) (s : State) : Host.Outcome State Fault Refusal :=
  let p := s.spur n
  done (
    match p.slots[k] with
    | some x =>
      if s.expired x.confirmDue then
        let r := p.drops[x.drop]
        if r.retry < p.retryLimit then
          let p := (p.setDrop x.drop { r with retry := r.retry + 1 }).setSlot k (some { x with confirmDue := none })
          s.setSpur n { p with setsWaiting := p.setsWaiting ++ [k] }
        else ((s.setSpur n (p.freeSlot k)).giveUp n x.drop).takeSlots n
      else s
    | none => s)

/-! ## The attention poll (R38, R39) -/

/-- R38: a query of the present grade waits for the line. -/
def Poll.query (p : Poll) : Poll := { p with state := .query, waiting := true, sending := false, due := none }

/-- R38: a poll starts. -/
def Poll.start (p : Poll) : Poll := { p with silent := 0, grade := .urgent, again := false, holdOff := none }.query

/-- R39: a drop is served. -/
def Poll.serve (p : Poll) (d : Fin 16) : Poll :=
  { p with state := .request, current := d, waiting := true, sending := false, due := none, again := false }

/-- R38: a summary with no drop to serve finishes the grade. R33 withdraws a waiting poll frame when the poll is abandoned, and neither rule
says what becomes of one that waits when the poll ends. THE MODEL'S CHOICE (notes/assumptions/44.md): it is withdrawn likewise. -/
def Poll.finishGrade (p : Poll) : Poll :=
  match p.grade with
  | .urgent => { p with grade := .routine, again := false }.query
  | .routine => { p.abandon with again := false }

/-- R38: the conditions for a poll to start. (As time passes, a hold-off that has ended becomes none: Tick.lean.) -/
def State.pollReady (s : State) (n : Fin 6) : Bool :=
  let p := s.spur n
  p.state == .active && p.attn && p.poll.state == .idle && (match p.poll.holdOff with
    | none => true
    | some t => s.reached t)

/-- A spur's poll record replaced. -/
def State.setPoll (s : State) (n : Fin 6) (p : Poll) : State := s.setSpur n { s.spur n with poll := p }

/-- POLL_START (R38). -/
def execPollStart (n : Fin 6) (attn : Bool) (s : State) : Host.Outcome State Fault Refusal :=
  let s := s.setSpur n { s.spur n with attn }
  done (if s.pollReady n then s.setPoll n (s.spur n).poll.start else s)

/-- R38: a bad summary: the query is repeated once, and then the poll is abandoned. -/
def State.badSummary (s : State) (n : Fin 6) : State :=
  let p := (s.spur n).poll
  if p.again then (s.setPoll n { p.abandon with holdOff := some (s.after Config.holdOffMs) }).raise .pollError
  else s.setPoll n { p with again := true }.query

/-- R38: the lowest-numbered drop that a good summary names and that can be served. -/
def SpurPort.served (p : SpurPort) (map : Half) : Option (Fin 16) :=
  (allFin 16).find? fun d =>
    map.getLsbD d.val && p.drops[d].present && p.drops[d].kind == .attention && !p.poll.silent.getLsbD d.val

/-- R38, R187: an ATTN_SUMMARY from the line head. -/
def State.takeSummary (s : State) (n : Fin 6) (payload : List Byte) : State :=
  let p := s.spur n
  if p.poll.state ≠ .query then s
  else if payload.length < 4 ∨ halfAt payload 0 + halfAt payload 2 ≠ 0xFFFF then s.badSummary n
  else match p.served (BitVec.ofNat 16 (halfAt payload 2)) with
    | some d => s.setPoll n (p.poll.serve d)
    | none => s.setPoll n p.poll.finishGrade

/-- QUERY_TIMER_EXPIRY (R38). -/
def execQueryTimerExpiry (n : Fin 6) (s : State) : Host.Outcome State Fault Refusal :=
  let p := (s.spur n).poll
  done (if p.state = .query ∧ s.expired p.due then s.badSummary n else s)

/-- R39: after a report or a silence the same grade is queried again. -/
def State.queryAgain (s : State) (n : Fin 6) : State :=
  s.setPoll n { (s.spur n).poll with again := false }.query

/-- REPORT_TIMER_EXPIRY (R39). -/
def execReportTimerExpiry (n : Fin 6) (s : State) : Host.Outcome State Fault Refusal :=
  let p := (s.spur n).poll
  done (
    if p.state = .request ∧ s.expired p.due then
      ((s.setPoll n { p with silent := p.silent ||| BitVec.ofNat 16 (2 ^ p.current.val) }).raise .pollError).queryAgain n
    else s)

/-- R171: the refuge kind of a report type. -/
def refugeKind : Nat → Option AlarmKind
  | 0 => some .refugePanic
  | 1 => some .refugeDoor
  | 2 => some .refugeOccupied
  | 3 => some .refugeAir
  | _ => none

/-- R171: what a report does: the kind it raises (`true`) or clears; none for an unknown type (R39). -/
def refugeEffect (floor kind value : Nat) : Option (Bool × AlarmKind) :=
  match kind with
  | 0 => some (true, .refugePanic)
  | 1 => some (true, .refugeDoor)
  | 2 => some (decide (0 < value), .refugeOccupied)
  | 3 => some (decide (value < floor), .refugeAir)
  | 4 => (refugeKind value).map (false, ·)
  | _ => none

/-- R171: ALC takes a report passed by the poll. -/
def State.refugeReport (s : State) (n : Fin 6) (d : Fin 16) (up : Bool) (k : AlarmKind) : State :=
  let source := (s.station? n d).getD (dropId n d)
  if up then s.raiseAlarm k source (s.spur n).drops[d].zone (some ⟨n, d⟩) else s.clearAlarm k source

/-- R39, R187: a REPORT from a drop. -/
def State.takeReport (s : State) (n : Fin 6) (d : Fin 16) (payload : List Byte) : State :=
  let p := (s.spur n).poll
  if p.state ≠ .request ∨ p.current ≠ d then s
  else
    let effect := if payload.length < 3 then none
      else refugeEffect s.mge.table.airFloor (byteAt payload 0) (halfAt payload 1)
    let s := match effect with
      | some (up, k) => s.refugeReport n d up k
      | none => s.raise .pollError
    s.queryAgain n

/-! ## Upstream frames (R31) -/

/-- R31: the frame a native body carries, when it passes the arrival checks of a spur port. -/
def spurCheck (body : List Byte) : Option Frame :=
  match Frame.parse body with
  | some d => if d.spurAccepted then some d else none
  | none => none

/-- R31: a frame from the line head. -/
def State.headFrame (s : State) (n : Fin 6) (body : List Byte) : State :=
  match spurCheck body with
  | none => s.raise .malformed
  | some d =>
    if d.cls ≠ .line then s
    else match (s.spur n).state, d.subtype with
      | .interrogating, 0 => s.takeDescriptor n d.payload
      | .powered, 1 => s.toActive n
      | .active, 2 => s.takeSummary n d.payload
      | _, _ => s

/-- R31: a frame or foreign bytes offered to FBF, and from there to CLS. -/
def State.storeSpur (s : State) (n : Fin 6) (drop : Fin 16) (body : Body) (level : Nat) : State :=
  let r := (s.spur n).drops[drop]
  match s.store { Stored.make body level .spur with arrival := some (.spur n) } with
  | (some f, s) => s.waitCls { port := .spur n, drop, kind := r.kind, zone := r.zone, frame := f }
  | (none, s) => s

/-- R31: a frame from a drop that is present, on an ACTIVE port. -/
def State.dropFrame (s : State) (n : Fin 6) (drop : Fin 16) (body : List Byte) : State :=
  if (s.spur n).drops[drop].kind = .foreign then
    if body.length = 0 ∨ 252 < body.length then s.raise .malformed else s.storeSpur n drop (.raw body) 0
  else match spurCheck body with
    | none => s.raise .malformed
    | some d =>
      if d.cls ≠ .line then s.storeSpur n drop (.drift d) d.level
      else match d.subtype, d.payload with
        | 4, mask :: _ => s.takeConfirm n drop (BitVec.ofNat 4 mask.toNat)
        | 3, payload => s.takeReport n drop payload
        | _, _ => s

/-- R31: the port listens to the line head. -/
def AttachState.hearsHead : AttachState → Bool
  | .interrogating => true
  | .powered => true
  | .active => true
  | _ => false

/-- R31: a spur frame received, its drop address first. -/
def State.spurArrival (s : State) (n : Fin 6) (bytes : List Byte) : State :=
  match bytes with
  | [] => s
  | addr :: body =>
    match LineAddr.ofByte addr with
    | .head => if (s.spur n).state.hearsHead then s.headFrame n body else s
    | .drop d => if s.active n && (s.spur n).drops[d].present then s.dropFrame n d body else s
    | .all => s
    | .noTarget => s

/-- The header of a spur frame says LINE, of this subtype, from the line head or from a drop. -/
def lineRow (bytes : List Byte) (head : Bool) (subtype : Nat) : Bool :=
  match bytes with
  | [] => false
  | addr :: body =>
    ((addr.toNat == 0x80) == head) && byteAt body 0 / 16 == 7 && byteAt body 6 % 8 == subtype

/-- SPUR_FRAME_RECEIVE (R31). -/
def execSpurFrameReceive (n : Fin 6) (bytes : List Byte) (s : State) : Host.Outcome State Fault Refusal :=
  done (s.spurArrival n bytes)

/-- DESCRIPTOR_RECEIVE (R26). -/
def execDescriptorReceive (n : Fin 6) (bytes : List Byte) (s : State) : Host.Outcome State Fault Refusal :=
  done (if lineRow bytes true 0 then s.spurArrival n bytes else s)

/-- READY_RECEIVE (R28). -/
def execReadyReceive (n : Fin 6) (bytes : List Byte) (s : State) : Host.Outcome State Fault Refusal :=
  done (if lineRow bytes true 1 then s.spurArrival n bytes else s)

/-- ATTN_SUMMARY_RECEIVE (R38). -/
def execAttnSummaryReceive (n : Fin 6) (bytes : List Byte) (s : State) : Host.Outcome State Fault Refusal :=
  done (if lineRow bytes true 2 then s.spurArrival n bytes else s)

/-- LINE_REPORT_RECEIVE (R39). -/
def execLineReportReceive (n : Fin 6) (bytes : List Byte) (s : State) : Host.Outcome State Fault Refusal :=
  done (if lineRow bytes false 3 then s.spurArrival n bytes else s)

/-- OUTPUT_CONFIRM_RECEIVE (R35). -/
def execOutputConfirmReceive (n : Fin 6) (bytes : List Byte) (s : State) : Host.Outcome State Fault Refusal :=
  done (if lineRow bytes false 4 then s.spurArrival n bytes else s)

/-! ## The line arbiter (R33) -/

/-- R25: the DESCRIBE has left. -/
def SpurPort.describeLeft (p : SpurPort) (due : Time) : SpurPort :=
  if p.state = .interrogating then { p with attachDue := some due } else p

/-- R38, R39: a poll frame has left. -/
def SpurPort.pollLeft (p : SpurPort) (due : Time) : SpurPort :=
  if p.poll.sending then { p with poll := { p.poll with sending := false, due := some due } } else p

/-- R34: a slot's OUTPUT_SET has left. -/
def SpurPort.setLeft (p : SpurPort) (k : Fin 4) (due : Time) : SpurPort :=
  match p.slots[k] with
  | some x => if x.sending then p.setSlot k (some { x with sending := false, sent := true, confirmDue := some due }) else p
  | none => p

/-- R33: the frame being sent has left the port; its answer timer runs from now. -/
def State.lineLeft (s : State) (n : Fin 6) : State :=
  let p := s.spur n
  let q := { p with tx := none }
  match p.tx with
  | none => s
  | some .describe => s.setSpur n (q.describeLeft (s.after Config.describeMs))
  | some (.attnQuery _) => s.setSpur n (q.pollLeft (s.after Config.queryMs))
  | some (.reportRequest _ _) => s.setSpur n (q.pollLeft (s.after Config.reportMs))
  | some (.outputSet k _ _) => s.setSpur n (q.setLeft k (s.after p.confirmMs))
  | some (.stored f) => (s.setSpur n q).free f.blocks

/-- R33: the poll frame that waits, built now. -/
def Poll.frame (p : Poll) : SpurTx :=
  match p.state with
  | .request => .reportRequest p.grade p.current
  | _ => .attnQuery p.grade

/-- R33, R34: the OUTPUT_SET of a slot, built now. -/
def SpurPort.sendSet (p : SpurPort) (k : Fin 4) (x : Slot) : SpurPort :=
  let r := p.drops[x.drop]
  { (p.setDrop x.drop { r with sent := r.desired }).setSlot k (some { x with sending := true }) with
    setsWaiting := p.setsWaiting.drop 1
    tx := some (.outputSet k x.drop r.desired) }

/-- R33: the freed transmitter takes the frame of the first user that has one waiting. When a frame of the queue cannot be read, the
transmitter is free again (R74), and the users are asked afresh. -/
def State.lineNextFor : Nat → Fin 6 → State → State
  | 0, _, s => s
  | j + 1, n, s =>
    let p := s.spur n
    match p.state with
    | .interrogating =>
      if p.describeWaiting then s.setSpur n { p with describeWaiting := false, tx := some .describe } else s
    | .active =>
      if p.poll.waiting then
        s.setSpur n { p with poll := { p.poll with waiting := false, sending := true }, tx := some p.poll.frame }
      else match p.setsWaiting with
        | k :: rest =>
          match p.slots[k] with
          | some x => s.setSpur n (p.sendSet k x)
          | none => s.setSpur n { p with setsWaiting := rest }
        | [] =>
          match s.egressTake (spurQueue n) with
          | (.nothing, s) => s
          | (.spoiled, s) => State.lineNextFor j n s
          | (.frame f, s) => s.setSpur n { s.spur n with tx := some (.stored f) }
    | _ => s

/-- R33. -/
def State.lineNext (s : State) (n : Fin 6) : State := State.lineNextFor (s.turns (spurQueue n)) n s

/-- SPUR_TRANSMIT_DONE (R33): the frame being sent has left, and the transmitter takes its next. -/
def execSpurTransmitDone (n : Fin 6) (u : Upsets) (s : State) : Host.Outcome State Fault Refusal :=
  done (((s.upsets u).lineLeft n).lineNext n)

/-! ## Resets -/

/-- R41: the port named by SPUR_RESET. -/
def State.resetSpur (s : State) (n : Fin 6) : State :=
  let was := s.spur n
  let s := s.spurTo n .empty fun p => { p with
    fault := .noFault, descriptor := none, granted := 0, tries := 0, attachDue := none, describeWaiting := false
    slots := Vector.replicate 4 none, setsWaiting := [], poll := Poll.powerOn
    drops := vmap Drop.reset p.drops }
  let s := (s.leaveActiveIf n was).flushQueue (spurQueue n)
  let s := (s.clearUnconfirmed n was.reportedDrops).emptied n was.state
  if (s.spur n).pres then s.toDetected n else s

/-- R42: a drop record at RESTART. -/
def Drop.restart (r : Drop) : Drop :=
  let r := { r with sent := 0, retry := 0, mismatched := false }
  match r.out with
  | .inFlight => r.compare
  | _ => r

/-- R42, R22: a spur port at RESTART. -/
def SpurPort.restart (p : SpurPort) : SpurPort :=
  { p with
    poll := { p.poll.abandon with holdOff := none }
    slots := Vector.replicate 4 none
    setsWaiting := []
    drops := vmap Drop.restart p.drops }.takeSlots

end Sys2Proof.Machine
end

