-- ==== Sys2Proof/Machine/Classify.lean ====
section
/-! DEFINITION. The classifier (chapter 3): native frames from a spur, signature filters and cascades, echo replies, default
destinations, and delivery of frames from the trunk. -/

namespace Sys2Proof.Machine

/-! ## Signature filters (R53 to R56) -/

/-- R53: the filters of a set as chains. A filter with cascade set takes in the next; the last filter ends its chain. -/
def chains : List Filter → List (List Filter)
  | [] => []
  | f :: rest =>
    if f.cascade then
      match chains rest with
      | [] => [[f]]
      | c :: cs => (f :: c) :: cs
    else [f] :: chains rest

/-- R54: the frame positions that a chain's masks select, ascending, its first window at `start`. -/
def selected : Nat → List Filter → List Nat
  | _, [] => []
  | start, f :: rest => ((List.range 32).filter fun i => f.mask.getLsbD i).map (start + ·) ++ selected (start + 32) rest

/-- R55: a field taken from the frame; an absent one is 0; none when it reaches past the last byte. -/
def Extract.take (e : Extract) (start : Nat) (bs : List Byte) : Option Nat :=
  match e.width with
  | 0 => some 0
  | 1 => if start + e.offset < bs.length then some (byteAt bs (start + e.offset)) else none
  | _ => if start + e.offset + 1 < bs.length then some (halfAt bs (start + e.offset)) else none

/-- What a matched chain yields: its last filter and the three numbers. -/
structure Match where
  filter : Filter
  tag : Nat
  value1 : Nat
  value2 : Nat
  deriving DecidableEq, Repr

/-- R54: the tests on the selected bytes. -/
def selectionMatches (positions : List Nat) (last : Filter) (bs : List Byte) : Bool :=
  match positions.getLast? with
  | none => false
  | some p => p < bs.length && crc16 (positions.map fun i => bs.getD i 0) == last.crc && byteAt bs p == last.last

/-- R54, R55: a chain tried on foreign bytes. -/
def matchChain (bs : List Byte) (chain : List Filter) : Option Match :=
  match chain, chain.getLast? with
  | first :: _, some last =>
    let start := 4 * first.offset
    if selectionMatches (selected start chain) last bs then
      match last.tag.take start bs, last.value1.take start bs, last.value2.take start bs with
      | some tag, some value1, some value2 => some { filter := last, tag, value1, value2 }
      | _, _, _ => none
    else none
  | _, _ => none

/-- R53: a chain is tried when its first filter is enabled and the spur is in its spur set. -/
def chainTried (n : Fin 6) (chain : List Filter) : Bool :=
  match chain with
  | [] => false
  | f :: _ => f.enabled && f.spurs.getLsbD n.val

/-- R53: the first chain that matches. -/
def RuleSet.classify (r : RuleSet) (n : Fin 6) (bs : List Byte) : Option Match :=
  ((chains r.filters.toList).filter (chainTried n)).findSome? (matchChain bs)

/-- R56: the payload of a drift frame made from foreign bytes. -/
def Match.payload (m : Match) (bs : List Byte) : List Byte :=
  let words := (if m.filter.value1.width = 0 then [] else bytes16 m.value1)
    ++ (if m.filter.value2.width = 0 then [] else bytes16 m.value2)
  words ++ bs.take (240 - words.length)

/-- A node number of 0 stands for this node (R48, R56, R57). -/
def Addr.here (a : Addr) (node : Nat) : Addr := if a.node = 0 then { a with node } else a

/-- R56: the drift frame of a match. -/
def Match.frame (m : Match) (node station zone : Nat) (bs : List Byte) : Frame :=
  { Frame.built m.filter.cls m.filter.subtype m.filter.level (m.filter.dst.here node) ⟨node, station⟩ (m.payload bs) with
    zone, tag := m.tag }

/-- R57: the drift frame for a default destination. -/
def defaultFrame (dst : Addr) (node station zone : Nat) (bs : List Byte) : Frame :=
  { Frame.built .bulk 0 1 (dst.here node) ⟨node, station⟩ (bs.take 240) with zone }

/-! ## Going on (R50) -/

/-- R50: a frame from a spur, stamped or made, is sent on by its destination node. -/
def State.routeSpur (s : State) (f : Stored) (d : Frame) : State :=
  let f := { f with body := .drift d, level := d.level }
  if d.dst.node = s.node then (s.deliver f d).2
  else
    let (entered, s) := s.trunkEnter f d
    let s := if entered.isNone then s.raise .noRoute else s
    if d.dst.node = 63 then (s.deliver { f with blocks := if entered = some true then [] else f.blocks } d).2
    else if entered = some true then s
    else s.free f.blocks

/-- R50: the reply context of a frame from a spur. -/
def Waiting.context (w : Waiting) (n : Fin 6) (tag : Nat) (page : Option (Fin 8)) (kind : ReplyKind) : ReplyCtx :=
  ⟨n, w.drop, tag, page, kind⟩

/-- R48, R49: a native frame from a drop is stamped. -/
def State.stamp (s : State) (d : Frame) (station zone : Nat) : Frame :=
  { d with
    src := ⟨s.node, station⟩
    dst := d.dst.here s.node
    level := max d.level ((s.cls.liveSet.floors.toList).getD d.cls.code 0)
    zone := if d.zone = 0 then zone else d.zone }

/-- R48 to R50: a native frame from a drop that has a station. -/
def State.classifyNative (s : State) (w : Waiting) (n : Fin 6) (station : Nat) (d : Frame) : State :=
  s.routeSpur { w.frame with ctx := some (w.context n d.tag none .noReply) } (s.stamp d station w.zone)

/-- R72: the blocks of a drift frame made from foreign bytes; none when the second block is refused. -/
def State.growBlocks (s : State) (f : Stored) (d : Frame) : Option Stored × State :=
  let s := s.setFbf { s.fbf with bad := s.fbf.bad.filter fun x => !f.blocks.contains x.block }
  if f.blocks.length < blocksFor (12 + d.payload.length) then
    match s.offer d.cls 1 with
    | (some got, s) => (some { f with blocks := f.blocks ++ got }, s)
    | (none, s) => (none, s.free f.blocks)
  else (some f, s)

/-- R56, R57, R72: a drift frame made from foreign bytes goes on. -/
def State.routeForeign (s : State) (f : Stored) (ctx : ReplyCtx) (d : Frame) : State :=
  match s.growBlocks { f with ctx := some ctx } d with
  | (some g, s) => s.routeSpur g d
  | (none, s) => s

/-- R67: an echo for a match. -/
def State.echo (s : State) (w : Waiting) (n : Fin 6) (m : Match) : State :=
  match m.filter.reply, m.filter.page with
  | .echo, some page => (s.sendPage page (.echo m.tag) n w.drop m.filter.level .spur).2
  | _, _ => s

/-- R53, R57: foreign bytes from a drop that has a station. -/
def State.classifyForeign (s : State) (w : Waiting) (n : Fin 6) (station : Nat) (bs : List Byte) : State :=
  match s.cls.liveSet.classify n bs with
  | some m =>
    let d := m.frame s.node station w.zone bs
    (s.echo w n m).routeForeign w.frame (w.context n m.tag m.filter.page m.filter.reply) d
  | none =>
    let x := s.cls.liveSet.defaults[n]
    if x.present then
      s.routeForeign w.frame (w.context n 0 none .noReply) (defaultFrame x.addr s.node station w.zone bs)
    else (s.free w.frame.blocks).raise .filterUnmatched

/-- A frame that CLS has taken and read. -/
def State.classify (s : State) (w : Waiting) : State :=
  match w.port, w.frame.body with
  | .trunk _, .drift d => (s.deliver w.frame d).2
  | .trunk _, .raw _ => s.free w.frame.blocks
  | .spur n, body =>
    match s.station? n w.drop with
    | none => s.noRoute w.frame
    | some station =>
      match body with
      | .drift d => s.classifyNative w n station d
      | .raw bs => s.classifyForeign w n station bs

/-- CLASSIFY_FRAME (R61): CLS takes the oldest frame that a port has stored, reads it (R74) and classifies it. -/
def execClassifyFrame (p : PortId) (u : Upsets) (s : State) : Host.Outcome State Fault Refusal :=
  done (
    match s.cls.waiting.find? (·.port == p) with
    | none => s
    | some w =>
      let s := s.upsets u
      let s := s.setCls { s.cls with waiting := s.cls.waiting.erase w }
      match s.readFrame w.frame with
      | (true, s) => s.classify w
      | (false, s) => s)

end Sys2Proof.Machine
end

