-- ==== Sys2Proof/Machine/Tables.lean ====
section
/-! DEFINITION. The tables and status views as management reads them: their indices (R176) and the 16-bit fields of each entry, in
the order of each table's defining rule. -/

namespace Sys2Proof.Machine

/-- R176: the first and last index of a table or view; none for an id not in the list. -/
def tableRange : Nat → Option (Nat × Nat)
  | 1 => some (0, 0)
  | 2 => some (0, 5)
  | 3 => some (0, 63)
  | 4 => some (0, 10)
  | 5 => some (0, 10)
  | 6 => some (0, 7)
  | 7 => some (0, 47)
  | 8 => some (1, 31)
  | 9 => some (0, 3)
  | 10 => some (0, 15)
  | 11 => some (0, 63)
  | 12 => some (0, 15)
  | 13 => some (0, 5)
  | 32 => some (0, 1)
  | 33 => some (0, 5)
  | 34 => some (0, 4)
  | 35 => some (0, 8)
  | 36 => some (0, 32)
  | 37 => some (0, 23)
  | 38 => some (0, 15)
  | 39 => some (0, 32)
  | 40 => some (0, 0)
  | 41 => some (0, 0)
  | _ => none

/-- R176: the fields of an entry. -/
def entryFields (table index : Nat) : Nat :=
  match table with
  | 1 => 25
  | 2 => 2
  | 3 => 1
  | 4 => if index < 8 then 20 else if index = 8 then 8 else if index = 9 then 12 else 2
  | 5 => if index < 8 then 20 else if index = 8 then 8 else if index = 9 then 12 else 2
  | 6 => 48
  | 7 => 33
  | 8 => 42
  | 9 => 7
  | 10 => 6
  | 11 => 3
  | 12 => 4
  | 13 => 18
  | 32 => 12
  | 33 => 58
  | 34 => if index = 4 then 3 else 7
  | 35 => 7
  | 36 => 16
  | 37 => 9
  | 38 => 56
  | 39 => if index = 32 then 6 else 13
  | 40 => 8
  | 41 => 2
  | _ => 0

/-- R178. -/
def NodeTable.fields (m : NodeTable) : List Nat :=
  [m.ring, m.node, m.station1.code, m.station2.code, m.budget, m.correctedLimit, m.airFloor, m.enables.toNat]
    ++ m.queueLimits.toList ++ m.voice.toList

/-- An extraction field's offset and width (R52). -/
def Extract.fields (e : Extract) : List Nat := [e.offset, e.width]

/-- R52. -/
def Filter.fields (f : Filter) : List Nat :=
  [flag f.enabled, f.spurs.toNat, f.offset] ++ wide f.mask.toNat
    ++ [f.crc.toNat, f.last, flag f.cascade, f.cls.code, f.subtype, f.level, f.dst.code]
    ++ f.tag.fields ++ f.value1.fields ++ f.value2.fields
    ++ [match f.page with
        | some p => p.val
        | none => 8, f.reply.ctorIdx]

/-- R58. -/
def Default.fields (d : Default) : List Nat := [flag d.present, d.addr.code]

/-- R52, R58: an entry of a rule set. -/
def RuleSet.fields (r : RuleSet) (live : Bool) (generation index : Nat) : List Nat :=
  match fin? 8 index with
  | some i => r.filters[i].fields
  | none =>
    if index = 8 then r.floors.toList
    else if index = 9 then r.defaults.toList.flatMap Default.fields
    else [flag live, generation]

/-- R63. -/
def Page.fields (p : Page) : List Nat :=
  [p.used, flag p.hasSum, p.sumOffset, p.partialSum]
    ++ p.slots.toList.flatMap (fun x => [x.offset, x.kind, x.width]) ++ fieldsOf p.bytes.toList

/-- R85: the configuration fields. -/
def ChannelCfg.fields (c : ChannelCfg) : List Nat :=
  [flag c.enabled, c.source.code, c.gas.ctorIdx, c.zone, c.sense.ctorIdx, c.zeroOffset, c.gain, c.fullScale, c.shift,
    c.warn, c.trip, c.hysteresis, c.riseWindow, c.riseLimit, c.staleLimit, flag c.failTrips, flag c.latch, flag c.overTrips]

/-- R89: the dynamic fields. -/
def Channel.fields (c : Channel) : List Nat :=
  c.cfg.fields
    ++ [c.state.ctorIdx, c.computed.ctorIdx,
        flag c.causes.level + 2 * flag c.causes.rise + 4 * flag c.causes.overRange + 8 * flag c.causes.fail,
        flag c.flags.overRange + 2 * flag c.flags.underRange + 4 * flag c.flags.indefinite,
        flag c.latched, c.lastRaw, c.calibrated, c.smoothed]
    ++ wideTime c.lastValid ++ [c.markValue] ++ wideTime c.markTime ++ wideTime c.inhibitEnd

/-- `n` entries of `k` fields each: those given, then entries of 0. -/
def padTo (total : Nat) (fs : List Nat) : List Nat := (fs ++ List.replicate total 0).take total

/-- R106. -/
def State.zoneFields (s : State) (z : Fin 31) : List Nat :=
  let x := s.zone z
  [flag x.enabled, flag x.monitored, x.policy.ctorIdx, x.localState.ctorIdx, x.combined.ctorIdx, flag x.force,
    flag x.evaluated, (s.contributors (z.val + 1)).length]
    ++ wideTime x.lastSent
    ++ padTo 32 (x.reporters.flatMap fun r => [r.node, r.state.ctorIdx] ++ wideTime r.time)

/-- R114. -/
def Relay.fields (r : Relay) : List Nat :=
  [r.func.ctorIdx, r.severity] ++ wide r.mask.toNat ++ [flag r.energised, flag r.closed, flag r.fault]

/-- R140. -/
def Segment.fields (g : Segment) : List Nat := [g.id, g.zone, g.capacity, g.lease, g.waitLimit, flag g.autoReopen]

/-- R138. -/
def RosterEntry.fields (r : RosterEntry) : List Nat := [r.truck, flag r.enabled, flag r.rated]

/-- R162. -/
def Action.fields (a : Action) : List Nat := [a.mode.ctorIdx, a.severity, a.mask.toNat, a.scope.ctorIdx]

/-- R43: a SPURS entry. -/
def SpurPort.fields (p : SpurPort) : List Nat := [p.confirmMs, p.retryLimit] ++ p.drops.toList.map Drop.zone

/-- R11. -/
def TrunkPort.fields (t : TrunkPort) : List Nat :=
  [t.state.ctorIdx, t.cause.ctorIdx, flag t.latch] ++ wideTime t.entered
    ++ [flag t.nb.valid, t.nb.ring, t.nb.node, flag t.nb.wrap, flag t.nb.island] ++ wideTime t.nb.lastHello

/-- The drops that satisfy a test, as a set (section 11.5). -/
def SpurPort.dropSet (p : SpurPort) (test : Drop → Bool) : Nat :=
  ((allFin 16).map fun d => if test p.drops[d] then 2 ^ d.val else 0).sum

/-- R43: a SPUR_STATUS entry. The rule gives 0 while no descriptor is valid for field 6 only. THE MODEL'S CHOICE (notes/assumptions/46.md):
field 7, the drop map, reads 0 then too. -/
def SpurPort.status (p : SpurPort) : List Nat :=
  [p.state.ctorIdx, p.fault.ctorIdx] ++ wideTime p.entered
    ++ [p.granted, (p.descriptor.map (·.power)).getD 0, (p.descriptor.map (·.map.toNat)).getD 0,
        p.dropSet fun r => r.present && r.kind == .attention, p.dropSet fun r => r.present && r.kind == .foreign,
        p.poll.state.ctorIdx]
    ++ p.drops.toList.flatMap fun r => [r.desired.toNat, r.confirmed.toNat, r.out.ctorIdx]

/-- R84: a BANKS entry. -/
def Buffer.bankFields (b : Buffer) (k : Fin 4) : List Nat :=
  let x := b.banks[k]
  [x.state.ctorIdx, flag x.retirePending, x.cause.ctorIdx, x.corrected, x.uncorrectable,
    b.held.countP fun n => bankOf n == k, b.free.countP fun n => bankOf n == k]

/-- R84: a QUEUES entry. -/
def State.queueFields (s : State) (q : Fin 9) : List Nat :=
  let x := s.queue q
  [s.mge.table.queueLimits[q], occupancy x.frames, x.frames.length, (x.frames.head?.map (·.level)).getD 16,
    x.pushOuts, x.refusals, x.stale]

/-- R137: a port's code. -/
def PortId.code : PortId → Nat
  | .trunk .east => 0
  | .trunk .west => 1
  | .spur n => n.val + 2

/-- The eight ports in the order of the voice budgets (R119). -/
def allPorts : List PortId := [.trunk .east, .trunk .west] ++ (allFin 6).map .spur

/-- R137: a circuit record. -/
def Circuit.fields (c : Circuit) : List Nat :=
  [c.id, c.partyA.code, c.partyB.code, PortId.code c.sideA, PortId.code c.sideB, c.width, c.prec.ctorIdx, c.zone, c.role,
    c.state.ctorIdx] ++ wideTime c.deadline ++ wideTime c.admitted ++ wideTime c.connect

/-- R137: an entry of the CIRCUITS view. -/
def State.circuitFields (s : State) (index : Nat) : List Nat :=
  if index = 32 then allPorts.map s.reserved ++ allPorts.map s.budget
  else ((s.csw.circuits[index]?).map Circuit.fields).getD (List.replicate 16 0)

/-- R156: an entry of the TRUCKS view. -/
def Truck.fields (t : Truck) : List Nat :=
  [t.id] ++ wideTime t.heard
    ++ [t.via.code, (match t.page with
        | some p => p.val
        | none => 8), t.tag, t.held.getD 0 0, t.held.getD 1 0, t.waiting.getD 0]

/-- R156: an entry of the OCCUPANCY view. -/
def Segment.occupancyFields (g : Segment) : List Nat :=
  [g.state.ctorIdx, flag g.commandClose, g.occupants.length, g.waiting.length]
    ++ padTo 20 (g.occupants.flatMap fun o => [o.truck, o.dir.ctorIdx, flag o.overdue] ++ wideTime o.leaseEnd)
    ++ padTo 32 (g.waiting.flatMap fun w => [w.truck, w.dir.ctorIdx] ++ wideTime w.time)

/-- R173: a drop field. -/
def dropCode : Option DropRef → Nat
  | none => 0
  | some r => (r.spur.val + 1) * 256 + r.drop.val

/-- R173: a list entry. -/
def Alarm.fields (e : Alarm) : List Nat :=
  [e.serial, e.kind.code, e.source, e.zone, e.severity, flag (!e.active), flag e.acked] ++ wideTime e.raised
    ++ [flag e.again, flag e.due, e.action.val, dropCode e.drop]

/-- R173: the summary entry. -/
def AlarmControl.summary (a : AlarmControl) : List Nat :=
  let locked := ((allFin 31).map fun z => if a.lockdown[z] = 0 then 0 else 2 ^ (z.val + 1)).sum
  [flag a.island, a.alarms.length, a.serial, flag a.gapDue.isSome] ++ wide locked

/-- R173: an entry of the ALARMS view. -/
def AlarmControl.fields (a : AlarmControl) (index : Nat) : List Nat :=
  if index = 32 then a.summary else ((a.alarms[index]?).map Alarm.fields).getD (List.replicate 13 0)

/-- R181: the EVENTS view. -/
def State.eventFields (s : State) : List Nat :=
  [s.mge.events.toNat, s.mge.table.enables.toNat, s.cfl.load.ctorIdx, s.cfl.applied,
    s.cfl.stopTable * 256 + s.cfl.stopIndex, s.cfl.stopCause.ctorIdx, flag s.cfl.saving.isSome, s.cfl.lastSave.ctorIdx]

/-- An entry of a table of `k` entries, by its index. -/
def entryOf {k : Nat} (index : Nat) (f : Fin k → List Nat) : List Nat := ((fin? k index).map f).getD []

/-- R176: the fields of an entry, as the table or view stands. -/
def State.readEntry (s : State) (table index : Nat) : List Nat :=
  match table with
  | 1 => s.mge.table.fields
  | 2 => entryOf index fun i : Fin 6 => [s.cls.windows[i].base, s.cls.windows[i].limit]
  | 3 => entryOf index fun i : Fin 64 => [s.cls.direction[i].ctorIdx]
  | 4 => s.cls.setA.fields (s.cls.live == .a) s.cls.generation index
  | 5 => s.cls.setB.fields (s.cls.live == .b) s.cls.generation index
  | 6 => entryOf index fun i : Fin 8 => s.cls.pages[i].fields
  | 7 => entryOf index fun i => (s.channel i).fields
  | 8 => ((zoneIx index).map s.zoneFields).getD []
  | 9 => entryOf index fun i => (s.relay i).fields
  | 10 => entryOf index fun i => (s.segment i).fields
  | 11 => entryOf index fun i : Fin 64 => s.hlc.roster[i].fields
  | 12 => entryOf index fun i : Fin 16 => s.alc.actions[i].fields
  | 13 => entryOf index fun i => (s.spur i).fields
  | 32 => if index = 0 then s.tpe.fields else s.tpw.fields
  | 33 => entryOf index fun i => (s.spur i).status
  | 34 =>
    match fin? 4 index with
    | some k => s.fbf.bankFields k
    | none => [s.fbf.usable, s.fbf.free.length, s.fbf.reserve]
  | 35 => entryOf index s.queueFields
  | 36 => s.circuitFields index
  | 37 => ((s.hlc.trucks[index]?).map Truck.fields).getD (List.replicate 9 0)
  | 38 => entryOf index fun i => (s.segment i).occupancyFields
  | 39 => s.alc.fields index
  | 40 => s.eventFields
  | 41 => wideTime s.time
  | _ => []

/-- R176: the entries of a READ laid end to end. -/
def State.readRun (s : State) (table first count : Nat) : List Nat :=
  ((List.range count).map (first + ·)).flatMap (s.readEntry table)

/-- R176: the bytes that a READ returns. -/
def readBytes (table first count : Nat) : Nat := ((List.range count).map fun i => 2 * entryFields table (first + i)).sum

/-- R183: the entries that SAVE writes, in order. -/
def savedEntries : List (Nat × Nat) :=
  (List.range 13).flatMap fun t =>
    match tableRange (t + 1) with
    | some (first, last) =>
      let last := if t + 1 = 4 ∨ t + 1 = 5 then 9 else last
      (List.range (last + 1 - first)).map fun i => (t + 1, first + i)
    | none => []

/-- R62: the entry that SAVE writes under a table id: the live rule set stands as RULESET_A, the standby set as RULESET_B. R183 writes
every field. THE MODEL'S CHOICE (notes/assumptions/38.md): a field that a WRITE ignores, the force flag of a zone among them (R108),
holds its live value in the record; the load ignores it. -/
def State.savedEntry (s : State) (table index : Nat) : List Nat :=
  let table := if s.cls.live = .b then (if table = 4 then 5 else if table = 5 then 4 else table) else table
  s.readEntry table index

/-- R189: a stored record. -/
def recordBytes (table index : Nat) (fs : List Nat) : List Byte :=
  [byte table, byte index, byte fs.length] ++ fieldBytes fs

/-- R183: the copy of the configuration tables that SAVE writes, with its end marker. -/
def State.saveImage (s : State) : List Byte :=
  savedEntries.flatMap (fun e => recordBytes e.1 e.2 (s.savedEntry e.1 e.2)) ++ [0xFF]

end Sys2Proof.Machine
end

