-- ==== Sys2Proof/Machine/Writes.lean ====
section
/-! DEFINITION. Writes to the configuration tables (R177): the checks of each defining rule and the effects of an accepted write. A
management WRITE and a record of the configuration load (R182) are carried out alike. -/

namespace Sys2Proof.Machine

/-- R174: the statuses of a reply, in code order. -/
inductive Status where
  | ok | notAuthorised | badTable | badIndex | badValue | readOnly | liveSet | stillActive | busy | tooLong
  deriving DecidableEq, Repr

/-- A refusal of a request: its status and detail. -/
structure Refused where
  status : Status
  detail : Nat
  deriving DecidableEq, Repr

/-- What a write comes to: a refusal, or the node after it. -/
abbrev WriteResult := Except Refused State

/-- BAD_VALUE naming a field. -/
def badValue (detail : Nat) : Refused := ⟨.badValue, detail⟩

/-- The first bad field among fields given in order with whether each is accepted. -/
def firstBad : List (Nat × Bool) → Option Nat
  | [] => none
  | (n, ok) :: rest => if ok then firstBad rest else some n

/-- A write whose field values are checked, then carried out. -/
def checked (checks : List (Nat × Bool)) (s : State) : WriteResult :=
  match firstBad checks with
  | some n => .error (badValue n)
  | none => .ok s

/-- A value clamped to a range. -/
def clamp (lo hi n : Nat) : Nat := if n < lo then lo else if hi < n then hi else n

/-- Field `n` stands for a set flag. -/
def flagAt (fs : List Nat) (n : Nat) : Bool := fieldAt fs n == 1

/-! ## NODE (R178) -/

/-- The address that NODE fields 3 and 4 accept. -/
def stationOk (v : Nat) : Bool := v == 0 || (1 ≤ v / 256 && v / 256 ≤ 62)

/-- R178, R27, R119: the checks of a NODE entry. -/
def State.nodeChecks (s : State) (fs : List Nat) : List (Nat × Bool) :=
  let f := fieldAt fs
  ([(2, f 2 ≤ 62), (3, stationOk (f 3)), (4, stationOk (f 4)), (5, f 5 ≤ 40 && s.grantedWatts ≤ f 5), (6, 1 ≤ f 6)] :
      List (Nat × Bool))
    ++ (List.range 9).map (fun i => (9 + i, decide (4 ≤ f (9 + i) ∧ f (9 + i) ≤ 128)))
    ++ (allFin 8).map (fun i => (18 + i.val,
        decide (1 ≤ f (18 + i.val) ∧ f (18 + i.val) ≤ (if i.val < 2 then 24 else 8)
          ∧ s.reserved (allPorts.getD i.val (.trunk .east)) ≤ f (18 + i.val))))

/-- The NODE table that an entry's fields give. -/
def NodeTable.ofFields (fs : List Nat) : NodeTable :=
  let f := fieldAt fs
  { ring := f 1, node := f 2, station1 := Addr.ofCode (f 3), station2 := Addr.ofCode (f 4), budget := f 5
    correctedLimit := f 6, airFloor := f 7, enables := BitVec.ofNat 16 (f 8)
    queueLimits := vgen fun i => f (9 + i.val), voice := vgen fun i => f (18 + i.val) }

/-- R178: an accepted NODE write; a raised budget starts a re-examination (R27), and the pacer may have become able to announce
(R166). What the step has raised before has its NOTICE sent by the enables and stations of before (R180). -/
def State.putNode (s : State) (fs : List Nat) : State :=
  let s := s.settle
  let old := s.mge.table.budget
  let s := s.setMge { s.mge with table := NodeTable.ofFields fs }
  let s := if old < s.mge.table.budget then s.reexamine else s
  s.offerPacer

/-- WRITE of NODE. -/
def State.writeNode (s : State) (fs : List Nat) : WriteResult :=
  (checked (s.nodeChecks fs) s).map (·.putNode fs)

/-! ## WINDOWS (R45), DIRECTION (R51) -/

/-- R45: two windows share a station. -/
def Window.overlaps (a b : Window) : Bool := a.base != 0 && b.base != 0 && a.base ≤ b.limit && b.base ≤ a.limit

/-- R45: the checks of a WINDOWS entry. -/
def State.windowChecks (s : State) (i : Fin 6) (w : Window) : List (Nat × Bool) :=
  [(1, w.base ≤ 239),
   (2, w.base == 0 || (w.base ≤ w.limit && w.limit ≤ w.base + 15 && w.limit ≤ 239
      && !(allFin 6).any fun j => j != i && w.overlaps s.cls.windows[j]))]

/-- WRITE of WINDOWS. -/
def State.writeWindow (s : State) (i : Fin 6) (fs : List Nat) : WriteResult :=
  let w : Window := ⟨fieldAt fs 1, fieldAt fs 2⟩
  let kept : Window := if w.base = 0 then ⟨0, 0⟩ else w
  (checked (s.windowChecks i w) s).map fun s => s.setCls { s.cls with windows := s.cls.windows.set i kept }

/-- WRITE of DIRECTION. -/
def State.writeDirection (s : State) (i : Fin 64) (fs : List Nat) : WriteResult :=
  match TPort.ofCode (fieldAt fs 1) with
  | none => .error (badValue 1)
  | some p => .ok (s.setCls { s.cls with direction := s.cls.direction.set i p })

/-! ## Rule sets (R52, R58) -/

/-- R52: the checks of a filter. -/
def filterChecks (fs : List Nat) : List (Nat × Bool) :=
  let f := fieldAt fs
  [(1, f 1 ≤ 1), (2, f 2 ≤ 63), (3, f 3 ≤ 15), (7, f 7 ≤ 255), (8, f 8 ≤ 1), (9, 1 ≤ f 9 && f 9 ≤ 6),
   (10, ((FrameClass.ofCode (f 9)).map fun c => decide (f 10 < c.subtypes)).getD false),
   (11, f 11 ≤ 15), (12, f 12 / 256 ≤ 63), (13, f 13 ≤ 63), (14, f 14 ≤ 2), (15, f 15 ≤ 63), (16, f 16 ≤ 2),
   (17, f 17 ≤ 63), (18, f 18 ≤ 2 && (f 16 != 0 || f 18 == 0)), (19, f 19 ≤ 8), (20, f 20 ≤ 2 && (f 19 != 8 || f 20 == 0))]

/-- R52: the filter that an entry's fields give. -/
def Filter.ofFields (fs : List Nat) : Filter :=
  let f := fieldAt fs
  { enabled := flagAt fs 1, spurs := BitVec.ofNat 6 (f 2), offset := f 3, mask := BitVec.ofNat 32 (f 4 * 65536 + f 5)
    crc := BitVec.ofNat 16 (f 6), last := f 7, cascade := flagAt fs 8, cls := (FrameClass.ofCode (f 9)).getD .bulk
    subtype := f 10, level := f 11, dst := Addr.ofCode (f 12), tag := ⟨f 13, f 14⟩, value1 := ⟨f 15, f 16⟩
    value2 := ⟨f 17, f 18⟩, page := fin? 8 (f 19), reply := (ReplyKind.ofCode (f 20)).getD .noReply }

/-- R58: the checks of the class floors (entry 8) and the default destinations (entry 9). -/
def ruleChecks (index : Nat) (fs : List Nat) : List (Nat × Bool) :=
  let f := fieldAt fs
  if index < 8 then filterChecks fs
  else if index = 8 then (List.range 8).map fun i => (i + 1, decide (f (i + 1) ≤ 15))
  else (List.range 6).flatMap fun i =>
    [(2 * i + 1, decide (f (2 * i + 1) ≤ 1)), (2 * i + 2, decide (f (2 * i + 2) / 256 ≤ 63))]

/-- R52, R58: an accepted write of a rule set entry. -/
def RuleSet.put (r : RuleSet) (index : Nat) (fs : List Nat) : RuleSet :=
  match fin? 8 index with
  | some i => { r with filters := r.filters.set i (Filter.ofFields fs) }
  | none =>
    if index = 8 then { r with floors := vgen fun i => fieldAt fs (i.val + 1) }
    else { r with defaults := vgen fun i =>
      { present := flagAt fs (2 * i.val + 1), addr := Addr.ofCode (fieldAt fs (2 * i.val + 2)) } }

/-- WRITE of a rule set. -/
def State.writeRules (s : State) (set : SetName) (index : Nat) (fs : List Nat) : WriteResult :=
  (checked (ruleChecks index fs) s).map fun s => s.setCls (match set with
    | .a => { s.cls with setA := s.cls.setA.put index fs }
    | .b => { s.cls with setB := s.cls.setB.put index fs })

/-! ## REPLY_PAGES (R63) -/

/-- R63: patch slot `j` of an entry. -/
def slotOfFields (fs : List Nat) (j : Nat) : PatchSlot :=
  ⟨fieldAt fs (5 + 3 * j), fieldAt fs (6 + 3 * j), fieldAt fs (7 + 3 * j)⟩

/-- R63: two runs of bytes share one. -/
def runsMeet (a alen b blen : Nat) : Bool := alen != 0 && blen != 0 && a < b + blen && b < a + alen

/-- R63: slot `j`'s place is good: within the used length, even for two bytes, and apart from the checksum field and the slots
before it. A slot of a width that is no width has no place to check. -/
def slotPlaced (fs : List Nat) (j : Nat) : Bool :=
  let x := slotOfFields fs j
  x.width == 0 || 2 < x.width ||
    (x.offset + x.width ≤ fieldAt fs 1 && (x.width != 2 || x.offset % 2 == 0)
      && !(flagAt fs 2 && runsMeet x.offset x.width (fieldAt fs 3) 2)
      && !(List.range j).any fun i => runsMeet x.offset x.width (slotOfFields fs i).offset (slotOfFields fs i).width)

/-- R63: the checks of a page. The rule says that the detail names the first bad field, and not which field a relation counts against.
THE MODEL'S CHOICE (notes/assumptions/25.md): a used slot that passes the used length, stands at an odd offset with width 2, or shares
a byte is bad in its offset (5 + 3j), not in its width; a slot of width above 2 has its kind checked (6 + 3j, named before the width)
and its offset not. -/
def pageChecks (fs : List Nat) : List (Nat × Bool) :=
  let f := fieldAt fs
  ([(1, f 1 ≤ 64), (2, f 2 ≤ 1), (3, f 2 != 1 || (f 3 % 2 == 0 && f 3 + 2 ≤ f 1))] : List (Nat × Bool))
    ++ (List.range 4).flatMap fun j =>
      [(5 + 3 * j, slotPlaced fs j), (6 + 3 * j, f (7 + 3 * j) == 0 || f (6 + 3 * j) ≤ 7), (7 + 3 * j, f (7 + 3 * j) ≤ 2)]

/-- R63: an accepted page, its partial sum computed. The checksum offset of a page without a checksum is ignored, and so not stored
(R177). -/
def Page.ofFields (old : Page) (fs : List Nat) : Page :=
  let p : Page := {
    used := fieldAt fs 1
    hasSum := flagAt fs 2
    sumOffset := if flagAt fs 2 then fieldAt fs 3 else old.sumOffset
    partialSum := 0
    slots := vgen fun j => slotOfFields fs j.val
    bytes := vgen fun i =>
      let w := fieldAt fs (17 + i.val / 2)
      if i.val % 2 = 0 then byte (w / 256) else byte w }
  { p with partialSum := p.computeSum }

/-- WRITE of REPLY_PAGES. -/
def State.writePage (s : State) (i : Fin 8) (fs : List Nat) : WriteResult :=
  (checked (pageChecks fs) s).map fun s =>
    s.setCls { s.cls with pages := s.cls.pages.set i (s.cls.pages[i].ofFields fs) }

/-! ## CHANNELS (R85 to R88) -/

/-- R86: the checks of a CHANNELS entry, in field order. -/
def channelChecks (fs : List Nat) : List (Nat × Bool) :=
  let f := fieldAt fs
  let lowOk := f 3 == 2 || f 3 == 4
  [(1, f 1 ≤ 1), (3, f 3 ≤ 4), (4, f 4 ≤ 31 && !(f 1 == 1 && f 4 == 0)), (5, f 5 ≤ 1 && (f 5 == 0 || lowOk)),
   (6, f 6 ≤ 16383), (7, 1 ≤ f 7), (8, 1 ≤ f 8), (9, f 9 ≤ 4),
   (11, if f 5 = 0 then decide (f 10 < f 11) else decide (f 11 < f 10)),
   (12, f 12 ≤ 4095), (14, 1 ≤ f 14), (16, f 16 ≤ 1), (17, f 17 ≤ 1), (18, f 18 ≤ 1)]

/-- R85, R86: the configuration that an entry's fields give, the durations clamped. -/
def ChannelCfg.ofFields (fs : List Nat) : ChannelCfg :=
  let f := fieldAt fs
  { enabled := flagAt fs 1, source := Addr.ofCode (f 2), gas := (Gas.ofCode (f 3)).getD .ch4, zone := f 4
    sense := (Sense.ofCode (f 5)).getD .high, zeroOffset := f 6, gain := f 7, fullScale := f 8, shift := f 9
    warn := f 10, trip := f 11, hysteresis := f 12, riseWindow := min (f 13) 60, riseLimit := f 14
    staleLimit := clamp 1 255 (f 15), failTrips := flagAt fs 16, latch := flagAt fs 17, overTrips := flagAt fs 18 }

/-- R87: the dynamic fields set afresh. -/
def Channel.afresh (cfg : ChannelCfg) (now : Time) : Channel :=
  { Channel.powerOn with cfg, lastValid := now, markTime := now }

/-- R88: a full scale lowered under an enabled channel. -/
def Channel.rescale (c : Channel) (cfg : ChannelCfg) : Channel :=
  { c with
    cfg
    calibrated := min c.calibrated cfg.fullScale
    smoothed := min c.smoothed cfg.fullScale
    markValue := min c.markValue cfg.fullScale }

/-- R86: an enabled channel keeps its source and zone; the first field that changes. -/
def ChannelCfg.moved (old new : ChannelCfg) : Option Nat :=
  if !old.enabled then none
  else if old.source ≠ new.source then some 2
  else if old.zone ≠ new.zone then some 4
  else none

/-- R87, R88: an accepted write's effect on the channel. -/
def Channel.put (c : Channel) (cfg : ChannelCfg) (now : Time) : Channel :=
  if c.cfg.enabled != cfg.enabled then Channel.afresh cfg now
  else if cfg.enabled then c.rescale cfg
  else { c with cfg }

/-- R87, R88, R104: an accepted CHANNELS write. -/
def State.putChannel (s : State) (i : Fin 48) (cfg : ChannelCfg) : State :=
  let old := s.channel i
  let s := s.setChannel i (old.put cfg s.time)
  let s := if old.cfg.enabled && !cfg.enabled && old.causes.fail then s.clearAlarm .channelFault i.val else s
  if old.cfg.enabled || cfg.enabled then s.handTo cfg.zone else s

/-- WRITE of CHANNELS. -/
def State.writeChannel (s : State) (i : Fin 48) (fs : List Nat) : WriteResult :=
  let cfg := ChannelCfg.ofFields fs
  match firstBad (channelChecks fs) with
  | some n => .error (badValue n)
  | none =>
    match (s.channel i).cfg.moved cfg with
    | some n => .error ⟨.busy, n⟩
    | none => .ok (s.putChannel i cfg)

/-! ## ZONES (R106) -/

/-- R106: an accepted ZONES write. THE MODEL'S CHOICE (notes/assumptions/41.md): a write that changes both enabled and monitored
evaluates the zone once, with the three fields as written, and HLC is told of the policy last. -/
def State.putZone (s : State) (z : Fin 31) (enabled monitored : Bool) (policy : HaulPolicy) : State :=
  let x := s.zone z
  let s := s.setZone z { x with
    enabled, monitored, policy, reporters := if x.enabled && !enabled then [] else x.reporters }
  let s := if x.enabled != enabled || x.monitored != monitored then s.evaluate z else s
  let s := if !x.enabled && enabled then s.sendZoneReport z else s
  if x.policy ≠ policy then s.reopenZone (z.val + 1) else s

/-- WRITE of ZONES. -/
def State.writeZone (s : State) (z : Fin 31) (fs : List Nat) : WriteResult :=
  (checked [(1, fieldAt fs 1 ≤ 1), (2, fieldAt fs 2 ≤ 1), (3, fieldAt fs 3 ≤ 2)] s).map fun s =>
    s.putZone z (flagAt fs 1) (flagAt fs 2) ((HaulPolicy.ofCode (fieldAt fs 3)).getD .close)

/-! ## RELAYS (R114) -/

/-- R116: one relay is recomputed, and ALC told when its fault clears. -/
def State.driveRelay (s : State) (k : Fin 4) : State :=
  let (fixed, s) := s.relayRecompute k
  if fixed then s.clearAlarm .relayFault (k.val + 1) else s

/-- WRITE of RELAYS (R114). The rule does not say whether a ZONE_PERMIT mask with bit 0 alone set is empty. THE MODEL'S CHOICE
(notes/assumptions/25.md): it is not, and the detail names field 4, for its bit 0. -/
def State.writeRelay (s : State) (k : Fin 4) (fs : List Nat) : WriteResult :=
  let f := fieldAt fs
  let mask := BitVec.ofNat 32 (f 3 * 65536 + f 4)
  (checked [(1, f 1 ≤ 3), (2, 1 ≤ f 2 && f 2 ≤ 15), (3, f 1 != 1 || mask != 0), (4, !mask.getLsbD 0)] s).map fun s =>
    (s.setRelay k { s.relay k with
      func := (RelayFunc.ofCode (f 1)).getD .noFunction, severity := f 2, mask }).driveRelay k

/-! ## SEGMENTS (R140), ROSTER (R138) -/

/-- R140: the checks of a SEGMENTS entry. -/
def State.segmentChecks (s : State) (i : Fin 16) (fs : List Nat) : List (Nat × Bool) :=
  let f := fieldAt fs
  [(1, f 1 ≤ 255 && !(f 1 != 0 && (allFin 16).any fun j => j != i && (s.segment j).id == f 1)),
   (2, f 1 == 0 || (1 ≤ f 2 && f 2 ≤ 31)), (3, 1 ≤ f 3 && f 3 ≤ 4), (6, f 6 ≤ 1)]

/-- R140: a write refused with BUSY. -/
def Segment.busy (g : Segment) (fs : List Nat) : Bool :=
  let f := fieldAt fs
  (!g.occupants.isEmpty && (f 1 != g.id || f 2 != g.zone || f 3 != g.capacity)) || (!g.waiting.isEmpty && f 1 != g.id)

/-- R140: an accepted SEGMENTS write. -/
def State.putSegment (s : State) (i : Fin 16) (fs : List Nat) : State :=
  let f := fieldAt fs
  let g := s.segment i
  let g' := { g with
    id := f 1, zone := f 2, capacity := f 3, lease := clamp 30 600 (f 4), waitLimit := clamp 30 900 (f 5)
    autoReopen := f 6 == 1 }
  let s := s.setSegment i (if f 1 = g.id then g' else { g' with state := .closed, commandClose := false })
  if f 1 = 0 then s else ((s.closureTest i).reopenTest i).promote i

/-- WRITE of SEGMENTS. -/
def State.writeSegment (s : State) (i : Fin 16) (fs : List Nat) : WriteResult :=
  match firstBad (s.segmentChecks i fs) with
  | some n => .error (badValue n)
  | none => if (s.segment i).busy fs then .error ⟨.busy, 0⟩ else .ok (s.putSegment i fs)

/-- WRITE of ROSTER. -/
def State.writeRoster (s : State) (i : Fin 64) (fs : List Nat) : WriteResult :=
  let f := fieldAt fs
  let taken := f 1 != 0 && (allFin 64).any fun j => j != i && (s.hlc.roster[j]).truck == f 1
  (checked [(1, f 1 ≤ 4095 && !taken), (2, f 2 ≤ 1), (3, f 3 ≤ 1)] s).map fun s =>
    s.setHlc { s.hlc with roster := s.hlc.roster.set i ⟨f 1, f 2 == 1, f 3 == 1⟩ }

/-! ## ACTIONS (R162), SPURS (R43) -/

/-- WRITE of ACTIONS. -/
def State.writeAction (s : State) (i : Fin 16) (fs : List Nat) : WriteResult :=
  let f := fieldAt fs
  let a : Action := {
    mode := (ActionMode.ofCode (f 1)).getD .announce, severity := clamp 8 15 (f 2), mask := BitVec.ofNat 4 (f 3)
    scope := (Scope.ofCode (f 4)).getD .sourceDrop }
  (checked [(1, f 1 ≤ 3), (3, f 3 ≤ 15), (4, f 4 ≤ 2)] s).map fun s =>
    (s.setAlc { s.alc with actions := s.alc.actions.set i a }).driveOutputs.offerPacer

/-- R43: the checks of a SPURS entry. -/
def spurChecks (fs : List Nat) : List (Nat × Bool) :=
  (2, decide (fieldAt fs 2 ≤ 3)) :: (List.range 16).map fun d => (3 + d, decide (fieldAt fs (3 + d) ≤ 31))

/-- WRITE of SPURS; ALC's output scopes follow the drop zones. -/
def State.writeSpur (s : State) (n : Fin 6) (fs : List Nat) : WriteResult :=
  (checked (spurChecks fs) s).map fun s =>
    (s.setSpur n { s.spur n with
      confirmMs := clamp 100 5000 (fieldAt fs 1)
      retryLimit := fieldAt fs 2
      drops := vmapIdx (fun d (r : Drop) => { r with zone := fieldAt fs (3 + d.val) }) (s.spur n).drops }).masksRecompute

/-! ## The order of checks (R177) -/

/-- An entry of a table of `k` entries is written. -/
def entryWrite {k : Nat} (index : Nat) (f : Fin k → WriteResult) : WriteResult :=
  match fin? k index with
  | some i => f i
  | none => .error ⟨.badIndex, 0⟩

/-- R177 steps 6 and 7: the field values, the live state, and the effects, by table. -/
def State.writeEntry (s : State) (table index : Nat) (fs : List Nat) : WriteResult :=
  match table with
  | 1 => s.writeNode fs
  | 2 => entryWrite index (s.writeWindow · fs)
  | 3 => entryWrite index (s.writeDirection · fs)
  | 4 => s.writeRules .a index fs
  | 5 => s.writeRules .b index fs
  | 6 => entryWrite index (s.writePage · fs)
  | 7 => entryWrite index (s.writeChannel · fs)
  | 8 =>
    match zoneIx index with
    | some z => s.writeZone z fs
    | none => .error ⟨.badIndex, 0⟩
  | 9 => entryWrite index (s.writeRelay · fs)
  | 10 => entryWrite index (s.writeSegment · fs)
  | 11 => entryWrite index (s.writeRoster · fs)
  | 12 => entryWrite index (s.writeAction · fs)
  | 13 => entryWrite index (s.writeSpur · fs)
  | _ => .error ⟨.badTable, 0⟩

/-- R59: the table is the live rule set's. -/
def State.liveTable (s : State) (table : Nat) : Bool :=
  (table == 4 && s.cls.live == .a) || (table == 5 && s.cls.live == .b)

/-- R177: a WRITE. The configuration load does not apply LIVE_SET (R62, R182). -/
def State.write (s : State) (fromLoad : Bool) (table index : Nat) (fs : List Nat) : WriteResult :=
  match tableRange table with
  | none => .error ⟨.badTable, 0⟩
  | some (first, last) =>
    if 32 ≤ table ∨ ((table = 4 ∨ table = 5) ∧ index = 10) then .error ⟨.readOnly, 0⟩
    else if index < first ∨ last < index then .error ⟨.badIndex, 0⟩
    else if !fromLoad && s.liveTable table then .error ⟨.liveSet, 0⟩
    else if fs.length ≠ entryFields table index then .error (badValue 0)
    else s.writeEntry table index fs

end Sys2Proof.Machine
end

