-- ==== Sys2Proof/Machine/Haulage.lean ====
section
/-! DEFINITION. The haul frames and timers (chapter 8, sections 8.3 to 8.5) and the removal of an occupant. -/

namespace Sys2Proof.Machine

/-- R148: some occupancy of the truck on this node is OVERDUE. -/
def State.truckOverdue (s : State) (truck : Nat) : Bool :=
  (allFin 16).any fun i => (s.segment i).occupants.any fun o => o.truck == truck && o.overdue

/-- R148: the HAUL_OVERDUE condition clears when the truck's last OVERDUE flag has been cleared. -/
def State.overdueTest (s : State) (was : Bool) (truck : Nat) : State :=
  if was && !s.truckOverdue truck then s.clearAlarm .haulOverdue truck else s

/-- A truck occupies a segment. -/
def Segment.holds (g : Segment) (truck : Nat) : Bool := g.occupants.any (·.truck == truck)

/-- R143 step 5, R147: a truck's occupancy of a segment renewed. -/
def Segment.renew (g : Segment) (truck : Nat) (leaseEnd : Time) : Segment :=
  { g with occupants := g.occupants.map fun o =>
      if o.truck = truck then { o with leaseEnd, overdue := false } else o }

/-- R146, R155: an occupant leaves a segment. -/
def State.removeOccupant (s : State) (i : Fin 16) (truck : Nat) : State :=
  let was := s.truckOverdue truck
  let g := s.segment i
  let s := s.setSegment i { g with occupants := g.occupants.filter (·.truck != truck) }
  let s := s.modTruck truck fun t => { t with held := t.held.filter (· != g.id) }
  ((s.overdueTest was truck).promote i).truckTest truck

/-- R144: the truck gives up its place on another segment's list. -/
def State.giveUpPlace (s : State) (truck segId : Nat) : State :=
  match (s.truck? truck).bind (·.waiting) with
  | none => s
  | some id =>
    if id = segId then s
    else match s.segmentOf id with
      | none => s
      | some j =>
        let s := s.setSegment j ((s.segment j).unwait truck)
        (s.modTruck truck fun t => { t with waiting := none }).promote j

/-- R144: a truck not yet on the list joins its tail. -/
def State.joinList (s : State) (i : Fin 16) (truck : Nat) (dir : Direction) : State :=
  let g := s.segment i
  let s := s.setSegment i { g with waiting := g.waiting ++ [⟨truck, dir, s.time⟩] }
  s.modTruck truck fun t => { t with waiting := some g.id }

/-- R144: a truck on the list keeps its place, its request time and direction renewed. -/
def Segment.rewait (g : Segment) (truck : Nat) (dir : Direction) (now : Time) : Segment :=
  { g with waiting := g.waiting.map fun w => if w.truck = truck then { w with dir, time := now } else w }

/-- R144: granted or queued; the answer. -/
def State.grantOrQueue (s : State) (i : Fin 16) (truck : Nat) (dir : Direction) : Answer × State :=
  let g := s.segment i
  if g.canEnter truck dir then (.proceed g, (s.giveUpPlace truck g.id).grant i truck dir)
  else if g.waiting.any (·.truck == truck) then
    (.wait g (g.waiting.findIdx (·.truck == truck) + 1), s.setSegment i (g.rewait truck dir s.time))
  else if g.waiting.length < 8 then
    (.wait g (g.waiting.length + 1), (s.giveUpPlace truck g.id).joinList i truck dir)
  else (.hold g.id 3, s)

/-- R143 steps 4 to 11: the decision for a truck that has a table entry. At step 5 the rule gives no order between the clear of
HAUL_OVERDUE and PROCEED: THE MODEL'S CHOICE (notes/assumptions/41.md): the condition clears here, with all that ALC then drives, and
the answer is sent after it. -/
def State.decideEntry (s : State) (i : Fin 16) (truck : Nat) (dir : Direction) : Answer × State :=
  let g := s.segment i
  if g.holds truck then
    if g.state = .gasClosed then (.exit g.id, s)
    else
      let was := s.truckOverdue truck
      (.proceed g, (s.setSegment i (g.renew truck (s.after (g.lease * 1000)))).overdueTest was truck)
  else if 2 ≤ ((s.truck? truck).map (·.held.length)).getD 0 then (.hold g.id 4, s)
  else if g.state = .closed then (.hold g.id 5, s)
  else if s.barred g truck then (.hold g.id 6, s)
  else s.grantOrQueue i truck dir

/-- R139: a truck table entry as it is created. -/
def Truck.fresh (id : Nat) (now : Time) : Truck :=
  { id, heard := now, via := ⟨0, 0⟩, page := none, tag := 0, held := [], waiting := none }

/-- R139, R143: the truck's table entry, created when it has none, and refreshed from the request. -/
def State.heardTruck (s : State) (f : Stored) (d : Frame) : State :=
  let s := if (s.truck? d.tag).isNone then s.setTrucks (s.hlc.trucks ++ [Truck.fresh d.tag s.time]) else s
  s.refreshTruck d.tag d.src f.ctx

/-- R143: an ENTRY_REQUEST for an owned segment is decided; the answer. -/
def State.decideRequest (s : State) (i : Fin 16) (f : Stored) (d : Frame) : Answer × State :=
  let id := (s.segment i).id
  match s.rosterOf d.tag, Direction.ofCode (halfAt d.payload 2) with
  | none, _ => (.hold id 1, s)
  | some r, dir =>
    if !r.enabled then (.hold id 1, s)
    else match dir with
      | none => (.hold id 2, s)
      | some dir =>
        if (s.truck? d.tag).isNone ∧ 24 ≤ s.hlc.trucks.length then (.hold id 3, s)
        else (s.heardTruck f d).decideEntry i d.tag dir

/-- R141, R143: an ENTRY_REQUEST. The answer goes last (at step 5 the model's choice: notes/assumptions/41.md). -/
def State.entryRequest (f : Stored) (d : Frame) (s : State) : State :=
  if d.payload.length < 4 then s
  else match s.segmentOf (halfAt d.payload 0) with
    | none => s
    | some i =>
      let (a, s) := s.decideRequest i f d
      s.answerRequest d.tag f.ctx d.src a

/-- R141, R146: a CLEAR. -/
def State.haulClear (f : Stored) (d : Frame) (s : State) : State :=
  if d.payload.length < 2 then s
  else match s.segmentOf (halfAt d.payload 0) with
    | none => s
    | some i =>
      let s := s.refreshTruck d.tag d.src f.ctx
      if (s.segment i).holds d.tag then s.removeOccupant i d.tag else s

/-- R147: one segment at a truck's BEACON: the occupancy's lease and the waiting entry's time. -/
def Segment.beacon (g : Segment) (truck : Nat) (now : Time) : Segment :=
  { g.renew truck (now + BitVec.ofNat 32 (g.lease * 1000)) with
    waiting := g.waiting.map fun w => if w.truck = truck then { w with time := now } else w }

/-- R147: EXIT for each segment the truck occupies that is GAS_CLOSED. -/
def State.beaconExits (s : State) (truck : Nat) : State :=
  (allFin 16).foldl (fun s i =>
    let g := s.segment i
    if g.holds truck && g.state == .gasClosed then s.answerTruck truck (.exit g.id) else s) s

/-- R141, R147: a BEACON. -/
def State.beacon (f : Stored) (d : Frame) (s : State) : State :=
  if (s.truck? d.tag).isNone then s
  else
    let was := s.truckOverdue d.tag
    let s := s.refreshTruck d.tag d.src f.ctx
    let s := s.setHlc { s.hlc with segments := vmap (fun g => g.beacon d.tag s.time) s.hlc.segments }
    (s.overdueTest was d.tag).beaconExits d.tag

/-- An HLC row: its subtype's frames, and those of subtypes 3 to 7 that HLC discards (R141). -/
def State.haulRow (s : State) (u : Upsets) (subtype : Nat) (act : Stored → Frame → State → State) : State :=
  s.takeRow 242 u (fun d => 3 ≤ d.subtype || d.subtype == subtype) fun f d s =>
    if 3 ≤ d.subtype then s else act f d s

/-- ENTRY_REQUEST_RECEIVE (R143). -/
def execEntryRequestReceive (u : Upsets) (s : State) : Host.Outcome State Fault Refusal :=
  done (s.haulRow u 1 State.entryRequest)

/-- HAUL_CLEAR_RECEIVE (R146). -/
def execHaulClearReceive (u : Upsets) (s : State) : Host.Outcome State Fault Refusal :=
  done (s.haulRow u 2 State.haulClear)

/-- BEACON_RECEIVE (R147). -/
def execBeaconReceive (u : Upsets) (s : State) : Host.Outcome State Fault Refusal :=
  done (s.haulRow u 0 State.beacon)

/-- R148: an occupancy's lease has run out. -/
def State.leaseDue (s : State) (i : Fin 16) (truck : Nat) : Bool :=
  (s.segment i).occupants.any fun o => o.truck == truck && !o.overdue && s.reached o.leaseEnd

/-- LEASE_EXPIRY (R148). -/
def execLeaseExpiry (i : Fin 16) (truck : Nat) (s : State) : Host.Outcome State Fault Refusal :=
  done (
    if s.leaseDue i truck then
      let was := s.truckOverdue truck
      let g := s.segment i
      let s := s.setSegment i { g with occupants := g.occupants.map fun o =>
        if o.truck = truck then { o with overdue := true } else o }
      if was then s else s.raiseAlarm .haulOverdue truck g.zone none
    else s)

/-- R149: a waiting entry has outlived its segment's wait limit. -/
def State.waitDue (s : State) (i : Fin 16) (truck : Nat) : Bool :=
  (s.segment i).waiting.any fun w => w.truck == truck && (s.segment i).waitLimit * 1000 ≤ s.since w.time

/-- WAIT_EXPIRY (R149). -/
def execWaitExpiry (i : Fin 16) (truck : Nat) (s : State) : Host.Outcome State Fault Refusal :=
  done (
    if s.waitDue i truck then
      let s := s.setSegment i ((s.segment i).unwait truck)
      ((s.modTruck truck fun t => { t with waiting := none }).promote i).truckTest truck
    else s)

/-- TRUCK_ENTRY_EXPIRY (R150). -/
def execTruckEntryExpiry (truck : Nat) (s : State) : Host.Outcome State Fault Refusal := done (s.truckTest truck)

end Sys2Proof.Machine
end

