-- ==== Sys2Proof/Machine/Annunciate.lean ====
section
/-! DEFINITION. The pacer's and the repeat timers (R166, R168), the relays' feedback (R117), the scrub timer (R78), and ALC's discard
of ALARM frames (R157). -/

namespace Sys2Proof.Machine

/-- GAP_TIMER_EXPIRY (R166). -/
def execGapTimerExpiry (s : State) : Host.Outcome State Fault Refusal :=
  done (
    if s.expired s.alc.gapDue then
      match s.alc.alarms.find? (·.due) with
      | some e => if s.mayAnnounce then s.announceFirst e else s.setAlc { s.alc with gapDue := none }
      | none => s.setAlc { s.alc with gapDue := none }
    else s)

/-- R168: DUE set on the armed entries of a range of severities. -/
def AlarmControl.repeatDue (a : AlarmControl) (inRange : Nat → Bool) : AlarmControl :=
  { a with alarms := a.alarms.map fun e => if e.again && inRange e.severity then { e with due := true } else e }

/-- FAST_REPEAT_EXPIRY (R168). -/
def execFastRepeatExpiry (s : State) : Host.Outcome State Fault Refusal :=
  done (
    if s.reached s.alc.fastDue then
      (s.setAlc { s.alc.repeatDue (12 ≤ ·) with
        fastDue := s.alc.fastDue + BitVec.ofNat 32 Config.fastMs }).offerPacer
    else s)

/-- SLOW_REPEAT_EXPIRY (R168). -/
def execSlowRepeatExpiry (s : State) : Host.Outcome State Fault Refusal :=
  done (
    if s.reached s.alc.slowDue then
      (s.setAlc { s.alc.repeatDue (· ≤ 11) with
        slowDue := s.alc.slowDue + BitVec.ofNat 32 Config.slowMs }).offerPacer
    else s)

/-- RELAY_FEEDBACK_CHANGE (R117). -/
def execRelayFeedbackChange (r : Fin 4) (closed : Bool) (s : State) : Host.Outcome State Fault Refusal :=
  let x := s.relay r
  done (
    if x.closed = closed then s
    else
      let x' := { x with closed }.compared (s.after Config.mismatchMs)
      let s := s.setRelay r x'
      if x.fault && !x'.fault then s.clearAlarm .relayFault (r.val + 1) else s)

/-- MISMATCH_TIMER_EXPIRY (R117). -/
def execMismatchTimerExpiry (r : Fin 4) (s : State) : Host.Outcome State Fault Refusal :=
  done (
    if s.expired (s.relay r).mismatchDue then
      (s.setRelay r { s.relay r with mismatchDue := none, fault := true }).raiseAlarm .relayFault (r.val + 1) 0 none
    else s)

/-- SCRUB_TIMER_EXPIRY (R78). -/
def execScrubTimerExpiry (k : Fin 4) (s : State) : Host.Outcome State Fault Refusal :=
  done (if (s.bank k).state = .restoring ∧ s.expired (s.bank k).scrubDue then s.scrubEnd k else s)

/-- ALARM_FRAME_DISCARD (R157). -/
def execAlarmFrameDiscard (u : Upsets) (s : State) : Host.Outcome State Fault Refusal :=
  done (s.takeRow 240 u (fun _ => true) fun _ _ s => s)

end Sys2Proof.Machine
end

