-- ==== Sys2Proof/Machine/Load.lean ====
section
/-! DEFINITION. Power-on, the configuration load, the end of a SAVE, and what RESTART does once its reply has left (R182 to R184,
R189). -/

namespace Sys2Proof.Machine

/-! ## The configuration load (R182) -/

/-- R182, R107: the load ends: the zones not yet evaluated are evaluated. -/
def State.loadEnd (s : State) (l : Loader) : State := (s.setCfl l).evaluateRest

/-- R182: the load stops at a record. -/
def State.loadStop (s : State) (bs : List Byte) (cause : StopCause) : State :=
  (s.raise .loadError).loadEnd { s.cfl with
    load := .stopped, stopTable := byteAt bs 0, stopIndex := byteAt bs 1, stopCause := cause }

/-- R182: why a whole record cannot be applied, before its fields are looked at. -/
def recordFault (table index len : Nat) : Option StopCause :=
  if table = 0 ∨ 13 < table then some .unknownTable
  else match tableRange table with
    | none => some .unknownTable
    | some (first, last) =>
      if index < first ∨ last < index then some .badIndex
      else if len ≠ entryFields table index then some .badLength
      else none

/-- R182, R189: the record that begins the bytes given is applied, or stops the load. -/
def State.applyRecord (s : State) (bs : List Byte) : State :=
  let table := byteAt bs 0
  let index := byteAt bs 1
  let len := byteAt bs 2
  if bs = [] then s.loadStop bs .noAnswer
  else if table = 0xFF then s.loadEnd { s.cfl with load := .complete }
  else if bs.length < 3 ∨ bs.length < 3 + 2 * len then s.loadStop bs .noAnswer
  else match recordFault table index len with
    | some cause => s.loadStop bs cause
    | none =>
      match s.write true table index (fieldsOf ((bs.drop 3).take (2 * len))) with
      | .error _ => s.loadStop bs .refused
      | .ok s => s.setCfl { s.cfl with position := s.cfl.position + 3 + 2 * len, applied := s.cfl.applied + 1 }

/-- R182: the memory is absent. -/
def State.loadAbsent (s : State) : State := s.loadEnd { s.cfl with load := .absent }

/-- CONFIG_RECORD_APPLY (R182). A memory that acknowledges nothing at the first read is absent. -/
def execConfigRecordApply (stopsAfter : Option Nat) (s : State) : Host.Outcome State Fault Refusal :=
  done (
    if s.cfl.load ≠ .loading then s
    else match s.cfl.memory with
      | none => s.loadAbsent
      | some m =>
        if s.cfl.position = 0 ∧ stopsAfter = some 0 then s.loadAbsent
        else
          let bs := m.drop s.cfl.position
          s.applyRecord (match stopsAfter with
            | some n => bs.take n
            | none => bs))

/-! ## SAVE (R183) -/

/-- The first `n` bytes of a copy written over a memory. -/
def overwrite (memory image : List Byte) (n : Nat) : List Byte := image.take n ++ memory.drop (image.take n).length

/-- R183: the configuration memory and the result at the end of a save. -/
def Loader.saveEnd (l : Loader) (image : List Byte) (stopped : Option Nat) : Loader :=
  match l.memory, stopped with
  | none, _ => { l with saving := none, lastSave := .failed }
  | some m, none => { l with saving := none, lastSave := .done, memory := some (overwrite m image image.length) }
  | some m, some n => { l with saving := none, lastSave := .failed, memory := some (overwrite m image n) }

/-- SAVE_END (R183). -/
def execSaveEnd (stopped : Option Nat) (s : State) : Host.Outcome State Fault Refusal :=
  done (match s.cfl.saving with
    | none => s
    | some image => (s.setCfl (s.cfl.saveEnd image stopped)).raise .saveDone)

/-! ## POWER_ON (R1, R22, R114, R182) -/

/-- The inputs of a trunk port, over its power-on record. -/
def TrunkPort.repower (t : TrunkPort) : TrunkPort := { TrunkPort.powerOn with signal := t.signal, lock := t.lock }

/-- The inputs of a spur port, over its power-on record. -/
def SpurPort.repower (p : SpurPort) : SpurPort := { SpurPort.powerOn with pres := p.pres, attn := p.attn, ocLow := p.ocLow }

/-- R117, R114: a relay at power-on; the mismatch timer starts at once if its feedback reads CLOSED. -/
def Relay.repower (r : Relay) : Relay :=
  { Relay.powerOn with closed := r.closed }.compared (BitVec.ofNat 32 Config.mismatchMs)

/-- The configuration memory as a power loss leaves it: the bytes of a running save that had reached it are in it (R183). -/
def Loader.memoryAfter (l : Loader) (saved : Nat) : Option (List Byte) :=
  match l.memory, l.saving with
  | some m, some image => some (overwrite m image saved)
  | m, _ => m

/-- Every block in its power-on values; the inputs, the memory and the commands that wait stay. -/
def State.powerUp (s : State) (saved : Nat) : State :=
  { State.reset with
    tpe := s.tpe.repower
    tpw := s.tpw.repower
    spurs := vmap SpurPort.repower s.spurs
    relays := vmap Relay.repower s.relays
    cfl := { Loader.powerOn with memory := s.cfl.memoryAfter saved }
    pending := s.pending }

/-- R1: a port whose signal is high leaves DOWN at once. -/
def State.startTrunk (s : State) (p : TPort) : State := if (s.trunk p).signal then s.toTraining p else s

/-- R22: a port whose presence is high leaves EMPTY at once. -/
def State.startSpur (s : State) (n : Fin 6) : State := if (s.spur n).pres then s.toDetected n else s

/-- POWER_ON (R182). -/
def execPowerOn (saved : Nat) (s : State) : Host.Outcome State Fault Refusal :=
  let s := s.powerUp saved
  let s := (s.startTrunk .east).startTrunk .west
  let s := (allFin 6).foldl State.startSpur s
  done (if s.cfl.memory.isNone then s.loadAbsent else s)

/-! ## RESTART_FLUSH (R83, R184) -/

/-- The RESTART reply, waiting or being sent. -/
def Stored.isRestartReply (f : Stored) : Bool := f.origin == .manage true

/-- R184: the RESTART reply has left the node, or was discarded. -/
def State.restartReady (s : State) : Bool :=
  let sending : TrunkTx → Bool
    | .stored f => f.isRestartReply
    | .hello _ => false
  let onLine : SpurTx → Bool
    | .stored f => f.isRestartReply
    | _ => false
  s.mge.restarting && !s.egs.toList.any (fun q => q.frames.any Stored.isRestartReply)
    && !((s.tpe.tx.map sending).getD false) && !((s.tpw.tx.map sending).getD false)
    && !s.spurs.toList.any fun p => (p.tx.map onLine).getD false

/-- R83: a frame being sent from the buffer is cut off; frames the port builds take no blocks and are not in it. -/
def TrunkPort.flush (t : TrunkPort) : TrunkPort :=
  match t.tx with
  | some (.stored _) => { t with tx := none }
  | _ => t

/-- R83, for a spur port. -/
def SpurPort.flush (p : SpurPort) : SpurPort :=
  match p.tx with
  | some (.stored _) => { p with tx := none }
  | _ => p

/-- R83: the free pool rebuilt: every block of every IN_SERVICE bank, ascending. -/
def Buffer.rebuilt (b : Buffer) : List Nat :=
  (List.range 256).filter fun n => b.banks[bankOf n].state == .inService

/-- R83: every frame held in the buffer is discarded, and the pool rebuilt. -/
def State.flushAll (s : State) : State :=
  let s : State := { s with
    egs := vmap (fun q => { q with frames := [] }) s.egs
    tpe := s.tpe.flush
    tpw := s.tpw.flush
    spurs := vmap SpurPort.flush s.spurs }
  let s := s.setCls { s.cls with waiting := [] }
  let s := s.setFbf { s.fbf with held := [] }
  let s := (allFin 4).foldl State.retiredTest s
  (s.setFbf { s.fbf with free := s.fbf.rebuilt }).reserveRecompute

/-- R90: an enabled channel at RESTART. -/
def Channel.restart (c : Channel) (now : Time) : Channel :=
  if c.cfg.enabled then
    { c with
      computed := .starting
      causes := ⟨false, false, false, false⟩
      flags := ⟨false, false, false⟩
      lastValid := now
      state := if c.state = .inhibited then .inhibited else .starting }
  else c

/-- R90, R105: AEV restarts its channels, and every zone is evaluated (once, notes/assumptions/29.md). R113 gives no order among
zones, and R90 none among channels whose CHANNEL_FAULT conditions clear: THE MODEL'S CHOICE (notes/assumptions/37.md): both ascending,
so that reports, serials and the entry an IDLE pacer announces first come in that order. -/
def State.airRestart (s : State) : State :=
  let failed := (allFin 48).filter fun c => (s.channel c).cfg.enabled && (s.channel c).causes.fail
  let s : State := { s with channels := vmap (fun c => c.restart s.time) s.channels }
  let s := failed.foldl (fun s c => s.clearAlarm .channelFault c.val) s
  (allFin 31).foldl State.evaluate s

/-- R184: the node restarts after the flush. -/
def State.restartBlocks (s : State) : State :=
  let s : State := { s with spurs := vmap SpurPort.restart s.spurs }
  let s := s.callsRestart.airRestart
  let s := s.driveRelays fun _ => true
  (s.setAlc s.alc.allDue).offerPacer

/-- RESTART_FLUSH (R83, R184). -/
def execRestartFlush (s : State) : Host.Outcome State Fault Refusal :=
  done (
    if s.restartReady then
      let s := s.flushAll.restartBlocks
      s.setMge { s.mge with restarting := false }
    else s)

end Sys2Proof.Machine
end

