-- ==== Sys2Proof/Machine/Manage.lean ====
section
/-! DEFINITION. The management engine (chapter 10): requests and replies, READ, WRITE, and the twenty commands, each by the rule of
the chapter that owns it. -/

namespace Sys2Proof.Machine

/-! ## Replies (R174) -/

/-- R174: a REPLY's payload. -/
def replyPayload (r : Refused) (data : List Nat) : List Byte := [byte r.status.ctorIdx, byte r.detail] ++ fieldBytes data

/-- R174: the reply to a request. `restart` marks the RESTART reply (R184). -/
def State.reply (s : State) (d : Frame) (r : Refused) (data : List Nat) (restart : Bool) : State :=
  let x := Frame.built .mgmt 1 d.level d.src ⟨s.node, 0⟩ (replyPayload r data)
  (s.originate { x with tag := d.tag } (.manage restart)).2

/-- A reply OK. -/
def okStatus : Refused := ⟨.ok, 0⟩

/-- R175: the source of a request is authorised. -/
def State.authorised (s : State) (src : Addr) : Bool := s.stations.isEmpty || s.stations.contains src

/-- R174: a request's row: the request is taken when it is this row's, its source is checked, and it is carried out. -/
def State.request (s : State) (u : Upsets) (row : Instr) (act : Frame → State → State) : State :=
  s.takeRow 0 u (fun d => localRow d [] == row) fun _ d s =>
    if s.authorised d.src then act d s else s.reply d ⟨.notAuthorised, 0⟩ [] false

/-! ## READ (R176, R10) -/

/-- R176: the checks of a READ; none passes. -/
def readRefused (payload : List Byte) : Option Refused :=
  let table := byteAt payload 1
  let first := byteAt payload 2
  let count := byteAt payload 3
  if payload.length < 4 then some (badValue 0)
  else match tableRange table with
    | none => some ⟨.badTable, 0⟩
    | some (lo, hi) =>
      if count = 0 then some (badValue 0)
      else if first < lo ∨ hi < first ∨ hi < first + count - 1 then some ⟨.badIndex, 0⟩
      else if Config.replyBytes < readBytes table first count then some ⟨.tooLong, 0⟩
      else none

/-- R10: a READ that includes a trunk port's entry sets its latch while the port is UP. -/
def TrunkPort.latchRead (t : TrunkPort) : TrunkPort := { t with latch := t.state == .up }

/-- R10: the latches after a READ of TRUNKS entries. -/
def State.readLatches (s : State) (first count : Nat) : State :=
  let s := if first = 0 then s.setTrunk .east s.tpe.latchRead else s
  if first ≤ 1 ∧ 1 < first + count then s.setTrunk .west s.tpw.latchRead else s

/-- R176: a READ is carried out; one of TRUNKS then acts on the latches. -/
def State.readTable (d : Frame) (s : State) : State :=
  match readRefused d.payload with
  | some r => s.reply d r [] false
  | none =>
    let table := byteAt d.payload 1
    let first := byteAt d.payload 2
    let count := byteAt d.payload 3
    let data := s.readRun table first count
    let s := if table = 32 then s.readLatches first count else s
    s.reply d okStatus data false

/-- READ (R176). -/
def execRead (u : Upsets) (s : State) : Host.Outcome State Fault Refusal := done (s.request u (.read []) State.readTable)

/-- READ_TRUNKS (R10, R11). -/
def execReadTrunks (u : Upsets) (s : State) : Host.Outcome State Fault Refusal :=
  done (s.request u (.readTrunks []) State.readTable)

/-! ## WRITE (R177) -/

/-- R174, R177, R186: a WRITE is carried out. -/
def State.writeTable (d : Frame) (s : State) : State :=
  let p := d.payload
  if p.length < 3 ∨ p.length % 2 = 0 then s.reply d (badValue 0) [] false
  else match s.write false (byteAt p 1) (byteAt p 2) (fieldsOf (p.drop 3)) with
    | .error r => s.reply d r [] false
    | .ok s => s.reply d okStatus [] false

/-- WRITE_NODE (R178). -/
def execWriteNode (u : Upsets) (s : State) : Host.Outcome State Fault Refusal :=
  done (s.request u (.writeNode []) State.writeTable)

/-- WRITE_WINDOWS (R45). -/
def execWriteWindows (u : Upsets) (s : State) : Host.Outcome State Fault Refusal :=
  done (s.request u (.writeWindows []) State.writeTable)

/-- WRITE_DIRECTION (R51). -/
def execWriteDirection (u : Upsets) (s : State) : Host.Outcome State Fault Refusal :=
  done (s.request u (.writeDirection []) State.writeTable)

/-- WRITE_RULESET_A (R52, R58, R59). -/
def execWriteRulesetA (u : Upsets) (s : State) : Host.Outcome State Fault Refusal :=
  done (s.request u (.writeRulesetA []) State.writeTable)

/-- WRITE_RULESET_B (R52, R58, R59). -/
def execWriteRulesetB (u : Upsets) (s : State) : Host.Outcome State Fault Refusal :=
  done (s.request u (.writeRulesetB []) State.writeTable)

/-- WRITE_REPLY_PAGES (R63). -/
def execWriteReplyPages (u : Upsets) (s : State) : Host.Outcome State Fault Refusal :=
  done (s.request u (.writeReplyPages []) State.writeTable)

/-- WRITE_CHANNELS (R86). -/
def execWriteChannels (u : Upsets) (s : State) : Host.Outcome State Fault Refusal :=
  done (s.request u (.writeChannels []) State.writeTable)

/-- WRITE_ZONES (R106). -/
def execWriteZones (u : Upsets) (s : State) : Host.Outcome State Fault Refusal :=
  done (s.request u (.writeZones []) State.writeTable)

/-- WRITE_RELAYS (R114). -/
def execWriteRelays (u : Upsets) (s : State) : Host.Outcome State Fault Refusal :=
  done (s.request u (.writeRelays []) State.writeTable)

/-- WRITE_SEGMENTS (R140). -/
def execWriteSegments (u : Upsets) (s : State) : Host.Outcome State Fault Refusal :=
  done (s.request u (.writeSegments []) State.writeTable)

/-- WRITE_ROSTER (R138). -/
def execWriteRoster (u : Upsets) (s : State) : Host.Outcome State Fault Refusal :=
  done (s.request u (.writeRoster []) State.writeTable)

/-- WRITE_ACTIONS (R162). -/
def execWriteActions (u : Upsets) (s : State) : Host.Outcome State Fault Refusal :=
  done (s.request u (.writeActions []) State.writeTable)

/-- WRITE_SPURS (R43). -/
def execWriteSpurs (u : Upsets) (s : State) : Host.Outcome State Fault Refusal :=
  done (s.request u (.writeSpurs []) State.writeTable)

/-- WRITE_OTHER (R177): a table id that names no configuration table. -/
def execWriteOther (u : Upsets) (s : State) : Host.Outcome State Fault Refusal :=
  done (s.request u (.writeOther []) State.writeTable)

/-! ## Commands (R179) -/

/-- What a command comes to: a refusal, or the node after it with the reply's data fields. -/
abbrev CommandResult := Except Refused (State × List Nat)

/-- A command carried out, with no reply data. -/
def ok (s : State) : CommandResult := .ok (s, [])

/-- A command refused. -/
def refuse (status : Status) (detail : Nat) : CommandResult := .error ⟨status, detail⟩

/-- R179: the arguments of a COMMAND. -/
def commandArgs (payload : List Byte) : List Nat := fieldsOf (payload.drop 2)

/-- R179: a COMMAND with its arguments is carried out, and answered. -/
def State.commandAct (arity : Nat) (act : List Nat → State → CommandResult) (d : Frame) (s : State) : State :=
  let args := commandArgs d.payload
  if args.length < arity then s.reply d (badValue (args.length + 1)) [] false
  else match act args s with
    | .error r => s.reply d r [] false
    | .ok (s, data) => s.reply d okStatus data false

/-- A command's row. -/
def State.command (s : State) (u : Upsets) (row : Instr) (arity : Nat) (act : List Nat → State → CommandResult) :
    Host.Outcome State Fault Refusal :=
  done (s.request u row (State.commandAct arity act))

/-- Argument `n`, counted from 1. -/
def arg (args : List Nat) (n : Nat) : Nat := args.getD (n - 1) 0

/-! ### Channels and zones -/

/-- The channel that an argument names. -/
def withChannel (n : Nat) (act : Fin 48 → CommandResult) : CommandResult :=
  match fin? 48 n with
  | some c => act c
  | none => refuse .badIndex 0

/-- R101. -/
def State.resetTrip (args : List Nat) (s : State) : CommandResult :=
  withChannel (arg args 1) fun c =>
    let x := s.channel c
    if !x.cfg.enabled || !x.latched then ok s
    else if x.causes.trips || x.causes.fail then refuse .stillActive 0
    else ok ((s.setChannel c { x with latched := false, computed := .trip }.derive).handTo x.cfg.zone)

/-- RESET_TRIP (R101). -/
def execResetTrip (u : Upsets) (s : State) : Host.Outcome State Fault Refusal :=
  s.command u (.resetTrip []) 1 State.resetTrip

/-- R102: an inhibit starts on a channel that is not INHIBITED. -/
def State.startInhibit (s : State) (c : Fin 48) (inhibitEnd : Time) : State :=
  let x := s.channel c
  let s := s.setChannel c { x with state := .inhibited, inhibitEnd }
  let s := if x.causes.fail then s.clearAlarm .channelFault c.val else s
  s.handTo x.cfg.zone

/-- R102. -/
def State.inhibit (args : List Nat) (s : State) : CommandResult :=
  withChannel (arg args 1) fun c =>
    let x := s.channel c
    let inhibitEnd := s.after (clamp 1 30 (arg args 2) * Config.minuteMs)
    if !x.cfg.enabled then refuse .badValue 1
    else if x.latched then refuse .stillActive 0
    else if x.state = .inhibited then ok (s.setChannel c { x with inhibitEnd })
    else ok (s.startInhibit c inhibitEnd)

/-- INHIBIT (R102). -/
def execInhibit (u : Upsets) (s : State) : Host.Outcome State Fault Refusal := s.command u (.inhibit []) 2 State.inhibit

/-- R103. -/
def State.endInhibitCommand (args : List Nat) (s : State) : CommandResult :=
  withChannel (arg args 1) fun c => if (s.channel c).state = .inhibited then ok (s.endInhibit c) else ok s

/-- END_INHIBIT (R103). -/
def execEndInhibit (u : Upsets) (s : State) : Host.Outcome State Fault Refusal :=
  s.command u (.endInhibit []) 1 State.endInhibitCommand

/-- The zone that an argument names. -/
def withZone (n : Nat) (act : Fin 31 → CommandResult) : CommandResult :=
  match zoneIx n with
  | some z => act z
  | none => refuse .badIndex 0

/-- R108: the force trip flag set or cleared. -/
def State.forceZone (force : Bool) (args : List Nat) (s : State) : CommandResult :=
  withZone (arg args 1) fun z =>
    if (s.zone z).force = force then ok s else ok ((s.setZone z { s.zone z with force }).evaluate z)

/-- FORCE_ZONE_TRIP (R108). -/
def execForceZoneTrip (u : Upsets) (s : State) : Host.Outcome State Fault Refusal :=
  s.command u (.forceZoneTrip []) 1 (State.forceZone true)

/-- RELEASE_ZONE_FORCE (R108). -/
def execReleaseZoneForce (u : Upsets) (s : State) : Host.Outcome State Fault Refusal :=
  s.command u (.releaseZoneForce []) 1 (State.forceZone false)

/-- R112. -/
def State.clearReporter (args : List Nat) (s : State) : CommandResult :=
  withZone (arg args 1) fun z =>
    let x := s.zone z
    match x.reporters.find? (·.node == arg args 2) with
    | none => ok s
    | some r =>
      if r.state = .stale then ok ((s.setZone z { x with reporters := x.reporters.erase r }).evaluate z)
      else refuse .stillActive 0

/-- CLEAR_REPORTER (R112). -/
def execClearReporter (u : Upsets) (s : State) : Host.Outcome State Fault Refusal :=
  s.command u (.clearReporter []) 2 State.clearReporter

/-! ### Alarms -/

/-- R169: an entry that is not acknowledged is acknowledged. -/
def State.ackEntry (s : State) (e : Alarm) : State :=
  let a := s.alc
  (s.setAlc (if e.active then a.put e { e with acked := true, again := false, due := false } else a.drop e)).driveOutputs.offerPacer

/-- R169. -/
def State.ackAlarm (args : List Nat) (s : State) : CommandResult :=
  match s.alc.bySerial (arg args 1) with
  | none => refuse .badIndex 0
  | some e => if e.acked then ok s else ok (s.ackEntry e)

/-- ACK_ALARM (R169). -/
def execAckAlarm (u : Upsets) (s : State) : Host.Outcome State Fault Refusal := s.command u (.ackAlarm []) 1 State.ackAlarm

/-- R158: the drop that a source id of 256 to 351 names. -/
def dropOfId (source : Nat) : Option DropRef :=
  if source < 256 then none
  else (fin? 6 ((source - 256) / 16)).map fun n => ⟨n, ⟨(source - 256) % 16, Nat.mod_lt _ (by decide)⟩⟩

/-- R172: the reply data of POST_ALARM. -/
def postData (a : AlarmControl) (source : Nat) : List Nat :=
  match a.find .posted source with
  | some e => [1, e.serial]
  | none => [0, 0]

/-- R172. -/
def State.postAlarm (args : List Nat) (s : State) : CommandResult :=
  match fin? 16 (arg args 3) with
  | none => refuse .badValue 3
  | some action =>
    let source := arg args 2
    let s := s.listAlarm ⟨.posted, source, 0, dropOfId source, action, clamp 1 7 (arg args 1)⟩
    .ok (s.driveOutputs.offerPacer, postData s.alc source)

/-- POST_ALARM (R172). -/
def execPostAlarm (u : Upsets) (s : State) : Host.Outcome State Fault Refusal :=
  s.command u (.postAlarm []) 3 State.postAlarm

/-- R172. -/
def State.clearPosted (args : List Nat) (s : State) : CommandResult :=
  match s.alc.bySerial (arg args 1) with
  | none => refuse .badIndex 0
  | some e => if e.kind = .posted then ok (s.clearAlarm .posted e.source) else refuse .badValue 1

/-- CLEAR_POSTED (R172). -/
def execClearPosted (u : Upsets) (s : State) : Host.Outcome State Fault Refusal :=
  s.command u (.clearPosted []) 1 State.clearPosted

/-! ### Haulage and calls -/

/-- The segment that an argument names by its id. -/
def State.withSegment (s : State) (id : Nat) (act : Fin 16 → CommandResult) : CommandResult :=
  match s.segmentOf id with
  | some i => act i
  | none => refuse .badIndex 0

/-- R153. -/
def State.openSegment (args : List Nat) (s : State) : CommandResult :=
  s.withSegment (arg args 1) fun i =>
    let g := s.segment i
    if s.combined g.zone = .trip ∨ s.lockedDown g.zone then refuse .stillActive 0
    else if g.state = .opened then ok s
    else ok ((s.setSegment i { g with state := .opened, commandClose := false }).promote i)

/-- OPEN_SEGMENT (R153). -/
def execOpenSegment (u : Upsets) (s : State) : Host.Outcome State Fault Refusal :=
  s.command u (.openSegment []) 1 State.openSegment

/-- R154. -/
def State.closeSegment (args : List Nat) (s : State) : CommandResult :=
  s.withSegment (arg args 1) fun i =>
    let g := s.segment i
    let state := if g.state = .opened then .closed else g.state
    ok ((s.setSegment i { g with commandClose := true, state }).dismissWaiting i 5)

/-- CLOSE_SEGMENT (R154). -/
def execCloseSegment (u : Upsets) (s : State) : Host.Outcome State Fault Refusal :=
  s.command u (.closeSegment []) 1 State.closeSegment

/-- R155. -/
def State.releaseOccupant (args : List Nat) (s : State) : CommandResult :=
  s.withSegment (arg args 1) fun i =>
    if (s.segment i).holds (arg args 2) then ok (s.removeOccupant i (arg args 2)) else refuse .badValue 2

/-- RELEASE_OCCUPANT (R155). -/
def execReleaseOccupant (u : Upsets) (s : State) : Host.Outcome State Fault Refusal :=
  s.command u (.releaseOccupant []) 2 State.releaseOccupant

/-- R135. -/
def State.releaseCircuitCommand (args : List Nat) (s : State) : CommandResult :=
  match s.circuit? (arg args 1) with
  | some c => ok (s.releaseCircuit c 13 true true)
  | none => refuse .badIndex 0

/-- RELEASE_CIRCUIT (R135). -/
def execReleaseCircuit (u : Upsets) (s : State) : Host.Outcome State Fault Refusal :=
  s.command u (.releaseCircuit []) 1 State.releaseCircuitCommand

/-! ### Rule sets, spurs, banks -/

/-- The set that is not live. -/
def SetName.other : SetName → SetName
  | .a => .b
  | .b => .a

/-- R60. -/
def State.exchange (_ : List Nat) (s : State) : CommandResult :=
  let live := s.cls.live.other
  let generation := (s.cls.generation + 1) % 256
  .ok ((s.setCls { s.cls with live, generation }).raise .rulesetExchanged, [live.ctorIdx, generation])

/-- EXCHANGE_RULESET (R60). -/
def execExchangeRuleset (u : Upsets) (s : State) : Host.Outcome State Fault Refusal :=
  s.command u (.exchangeRuleset []) 0 State.exchange

/-- R41. -/
def State.spurResetCommand (args : List Nat) (s : State) : CommandResult :=
  match fin? 6 (arg args 1 - 1) with
  | some n => if arg args 1 = 0 then refuse .badIndex 0 else ok (s.resetSpur n)
  | none => refuse .badIndex 0

/-- SPUR_RESET (R41). -/
def execSpurReset (u : Upsets) (s : State) : Host.Outcome State Fault Refusal :=
  s.command u (.spurReset []) 1 State.spurResetCommand

/-- R77. -/
def State.bankRetire (args : List Nat) (s : State) : CommandResult :=
  match fin? 4 (arg args 1) with
  | none => refuse .badIndex 0
  | some k =>
    match (s.bank k).state with
    | .inService => if s.fbf.otherInService k then ok (s.enterRetiring k .command) else refuse .stillActive 0
    | .retiring => ok s
    | .retired => ok s
    | .restoring => refuse .busy 0

/-- BANK_RETIRE (R77). -/
def execBankRetire (u : Upsets) (s : State) : Host.Outcome State Fault Refusal :=
  s.command u (.bankRetire []) 1 State.bankRetire

/-- R78: a scrub starts. -/
def State.scrubStart (s : State) (k : Fin 4) : State :=
  ((s.setBank k { s.bank k with state := .restoring, scrubDue := some (s.after Config.scrubMs) }).raise .bankChange).reserveRecompute

/-- R78: a restore of a bank in service. -/
def State.restoreInService (s : State) (k : Fin 4) : State :=
  let x := s.bank k
  let s := s.setBank k { x with corrected := 0, uncorrectable := 0, retirePending := false, cause := .noCause }
  if x.retirePending then s.clearAlarm .bankFault (k.val + 1) else s

/-- R78. -/
def State.bankRestore (args : List Nat) (s : State) : CommandResult :=
  match fin? 4 (arg args 1) with
  | none => refuse .badIndex 0
  | some k =>
    match (s.bank k).state with
    | .retired => ok (s.scrubStart k)
    | .inService => ok (s.restoreInService k)
    | .retiring => refuse .stillActive 0
    | .restoring => refuse .busy 0

/-- BANK_RESTORE (R78). -/
def execBankRestore (u : Upsets) (s : State) : Host.Outcome State Fault Refusal :=
  s.command u (.bankRestore []) 1 State.bankRestore

/-! ### Events, SAVE and RESTART -/

/-- R180. What the taking of the request has raised is raised before the clear, and so its NOTICE is sent before it (R180's 'taken first';
notes/assumptions/8.md). -/
def State.clearEvents (args : List Nat) (s : State) : CommandResult :=
  let s := s.settle
  let events := s.mge.events &&& ~~~(BitVec.ofNat 16 (arg args 1))
  .ok (s.setMge { s.mge with events }, [events.toNat])

/-- CLEAR_EVENTS (R180). -/
def execClearEvents (u : Upsets) (s : State) : Host.Outcome State Fault Refusal :=
  s.command u (.clearEvents []) 1 State.clearEvents

/-- R183. -/
def State.save (_ : List Nat) (s : State) : CommandResult :=
  if s.cfl.saving.isSome then refuse .busy 0
  else ok (s.setCfl { s.cfl with saving := some s.saveImage })

/-- SAVE (R183). -/
def execSave (u : Upsets) (s : State) : Host.Outcome State Fault Refusal := s.command u (.save []) 0 State.save

/-- R184: the RESTART reply is originated first; the restart waits until it has left. -/
def State.restartRequest (d : Frame) (s : State) : State :=
  let s := s.reply d okStatus [] true
  s.setMge { s.mge with restarting := true }

/-- RESTART (R184). -/
def execRestart (u : Upsets) (s : State) : Host.Outcome State Fault Refusal :=
  done (s.request u (.restart []) State.restartRequest)

/-! ### Other MGMT frames -/

/-- MGMT_FRAME_DISCARD (R174). -/
def execMgmtFrameDiscard (u : Upsets) (s : State) : Host.Outcome State Fault Refusal :=
  done (s.takeRow 0 u (fun d => d.subtype != 0) fun _ _ s => s)

/-- BAD_OPERATION_REQUEST (R174, R179). -/
def execBadOperationRequest (u : Upsets) (s : State) : Host.Outcome State Fault Refusal :=
  done (s.request u (.badOperationRequest []) fun d s => s.reply d (badValue 0) [] false)

end Sys2Proof.Machine
end

