-- ==== Sys2Proof/Machine/Tick.lean ====
section
/-! DEFINITION. What the block does when no command waits: one millisecond of the time base passes, and every timer that has expired
and every internal step that is enabled joins the queue of commands, in a fixed order (notes/assumptions/1.md). -/

namespace Sys2Proof.Machine

/-- A command, when it is due. -/
def when (due : Bool) (c : Instr) : List Instr := if due then [c] else []

/-- The steps of a trunk port that are due. R18 gives no transmission a length. THE MODEL'S CHOICE (notes/assumptions/1.md): what is due is
judged as the millisecond begins, so that the TRUNK_TRANSMIT_DONE of an idle port with a frame waiting comes last and also ends a HELLO that
an earlier step of the same tick (HELLO_TIMER_EXPIRY, or an expiry by which the port enters IDENT_WAIT) has just started. -/
def State.trunkDue (s : State) (p : TPort) : List Instr :=
  let t := s.trunk p
  when (t.state != .down && s.expired t.helloDue) (.helloTimerExpiry p)
    ++ when (t.state == .identWait && s.expired t.identDue) (.identTimerExpiry p)
    ++ when (t.state == .up && s.expired t.silenceDue) (.silenceTimerExpiry p)
    ++ when (t.tx.isNone && t.state != .down
        && (t.helloWaiting || (t.state == .up && !(s.queue (trunkQueue p)).frames.isEmpty))) (.trunkTransmitDone p [])

/-- A spur port's idle transmitter has a frame to take. -/
def State.lineIdle (s : State) (n : Fin 6) : Bool :=
  let p := s.spur n
  p.tx.isNone && (match p.state with
    | .interrogating => p.describeWaiting
    | .active => p.poll.waiting || !p.setsWaiting.isEmpty || !(s.queue (spurQueue n)).frames.isEmpty
    | _ => false)

/-- The confirm timers of a spur port that have expired. -/
def State.confirmsDue (s : State) (n : Fin 6) : List Instr :=
  (allFin 4).flatMap fun k =>
    when (((s.spur n).slots[k].map fun x => s.expired x.confirmDue).getD false) (.confirmTimerExpiry n k)

/-- The steps of a spur port that are due. -/
def State.spurDue (s : State) (n : Fin 6) : List Instr :=
  let p := s.spur n
  when (p.state == .detected && s.expired p.attachDue) (.detectTimerExpiry n)
    ++ when (p.state == .interrogating && s.expired p.attachDue) (.describeTimerExpiry n)
    ++ when (p.state == .powered && s.expired p.attachDue) (.readyTimerExpiry n)
    ++ when (p.ocLow && p.state.powered?) (.spurOvercurrent n true)
    ++ s.confirmsDue n
    ++ when (p.poll.state == .query && s.expired p.poll.due) (.queryTimerExpiry n)
    ++ when (p.poll.state == .request && s.expired p.poll.due) (.reportTimerExpiry n)
    ++ when (s.pollReady n) (.pollStart n p.attn)
    ++ when (s.lineIdle n) (.spurTransmitDone n [])

/-- The steps of AEV that are due. -/
def State.airDue (s : State) : List Instr :=
  (allFin 48).flatMap (fun c =>
      when (s.staleDue c) (.staleExpiry c)
        ++ when ((s.channel c).state == .inhibited && s.reached (s.channel c).inhibitEnd) (.inhibitExpiry c))
    ++ (allFin 31).flatMap fun z =>
      when (s.reportDue z) (.zoneReportPeriodic z)
        ++ (s.zone z).reporters.flatMap fun r => when (s.ageingDue z r.node) (.reporterAgeing z r.node)

/-- The steps of HLC that are due. -/
def State.haulDue (s : State) : List Instr :=
  (allFin 16).flatMap (fun i =>
      ((s.segment i).occupants.flatMap fun o => when (s.leaseDue i o.truck) (.leaseExpiry i o.truck))
        ++ (s.segment i).waiting.flatMap fun w => when (s.waitDue i w.truck) (.waitExpiry i w.truck))
    ++ s.hlc.trucks.flatMap fun t =>
      when (t.held.isEmpty && t.waiting.isNone && Config.truckMs ≤ s.since t.heard) (.truckEntryExpiry t.id)

/-- The steps of ALC, RLY, CSW, FBF, CFL and MGE that are due. -/
def State.blocksDue (s : State) : List Instr :=
  (allFin 4).flatMap (fun r => when (s.expired (s.relay r).mismatchDue) (.mismatchTimerExpiry r))
    ++ (allFin 4).flatMap (fun k =>
      when ((s.bank k).state == .restoring && s.expired (s.bank k).scrubDue) (.scrubTimerExpiry k))
    ++ s.csw.circuits.flatMap (fun c => when (s.reached c.deadline) (.circuitDeadlineExpiry c.id))
    ++ when (s.expired s.alc.gapDue) .gapTimerExpiry
    ++ when (s.reached s.alc.fastDue) .fastRepeatExpiry
    ++ when (s.reached s.alc.slowDue) .slowRepeatExpiry
    ++ when (s.broadcasts.any fun e => Config.broadcastMs ≤ s.since e.time) .broadcastMemoryAgeing
    ++ when (s.cfl.load == .loading) (.configRecordApply none)
    ++ when s.restartReady .restartFlush

/-- The rows of the frames on LOCAL whose endpoint is ready, in the order in which LOCAL hands them over. -/
def State.localDue (s : State) : List Instr :=
  ((s.queue localQueue).frames.filter s.endpointReady).filterMap fun f => f.body.frame?.map (localRow · [])

/-- Every step that is due, in the order in which they are taken. -/
def State.dueCommands (s : State) : List Instr :=
  s.localDue ++ s.trunkDue .east ++ s.trunkDue .west ++ (allFin 6).flatMap s.spurDue ++ s.airDue ++ s.haulDue ++ s.blocksDue
    ++ s.cls.waiting.map (fun w => Instr.classifyFrame w.port [])

/-- R38: a hold-off end that the time has come to is none from then on. -/
def Poll.lapse (p : Poll) (now : Time) : Poll :=
  if p.holdOff = some now then { p with holdOff := none } else p

/-- The time base one millisecond on (R181); it wraps. The polls' hold-offs that end at it are over. -/
def State.advance (s : State) : State :=
  let now := s.time + 1
  { s with time := now, spurs := vmap (fun p => { p with poll := p.poll.lapse now }) s.spurs }

/-- The block with no command waiting. -/
def State.tick (s : State) : State := s.advance.setPending s.advance.dueCommands

end Sys2Proof.Machine
end

