-- ==== Sys2Proof/Machine/Dispatch.lean ====
section
/-! DEFINITION. exec: one arm per command, each one direct call of its meaning. -/

namespace Sys2Proof.Machine

def exec (i : Instr) (s : State) : Host.Outcome State Fault Refusal :=
  match i with
  | .powerOn saved => Sys2Proof.Machine.execPowerOn saved s
  | .configRecordApply stopsAfter => Sys2Proof.Machine.execConfigRecordApply stopsAfter s
  | .trunkSignalRise p => Sys2Proof.Machine.execTrunkSignalRise p s
  | .trunkSignalLoss p => Sys2Proof.Machine.execTrunkSignalLoss p s
  | .trunkLockRise p => Sys2Proof.Machine.execTrunkLockRise p s
  | .trunkLockLoss p => Sys2Proof.Machine.execTrunkLockLoss p s
  | .helloTimerExpiry p => Sys2Proof.Machine.execHelloTimerExpiry p s
  | .helloReceive p bytes => Sys2Proof.Machine.execHelloReceive p bytes s
  | .identTimerExpiry p => Sys2Proof.Machine.execIdentTimerExpiry p s
  | .silenceTimerExpiry p => Sys2Proof.Machine.execSilenceTimerExpiry p s
  | .trunkFrameReceive p bytes => Sys2Proof.Machine.execTrunkFrameReceive p bytes s
  | .broadcastMemoryAgeing => Sys2Proof.Machine.execBroadcastMemoryAgeing s
  | .trunkTransmitDone p u => Sys2Proof.Machine.execTrunkTransmitDone p u s
  | .spurPresenceRise n => Sys2Proof.Machine.execSpurPresenceRise n s
  | .spurPresenceFall n => Sys2Proof.Machine.execSpurPresenceFall n s
  | .detectTimerExpiry n => Sys2Proof.Machine.execDetectTimerExpiry n s
  | .describeTimerExpiry n => Sys2Proof.Machine.execDescribeTimerExpiry n s
  | .descriptorReceive n bytes => Sys2Proof.Machine.execDescriptorReceive n bytes s
  | .readyReceive n bytes => Sys2Proof.Machine.execReadyReceive n bytes s
  | .readyTimerExpiry n => Sys2Proof.Machine.execReadyTimerExpiry n s
  | .spurOvercurrent n low => Sys2Proof.Machine.execSpurOvercurrent n low s
  | .spurFrameReceive n bytes => Sys2Proof.Machine.execSpurFrameReceive n bytes s
  | .spurTransmitDone n u => Sys2Proof.Machine.execSpurTransmitDone n u s
  | .outputConfirmReceive n bytes => Sys2Proof.Machine.execOutputConfirmReceive n bytes s
  | .confirmTimerExpiry n slot => Sys2Proof.Machine.execConfirmTimerExpiry n slot s
  | .pollStart n attn => Sys2Proof.Machine.execPollStart n attn s
  | .attnSummaryReceive n bytes => Sys2Proof.Machine.execAttnSummaryReceive n bytes s
  | .queryTimerExpiry n => Sys2Proof.Machine.execQueryTimerExpiry n s
  | .lineReportReceive n bytes => Sys2Proof.Machine.execLineReportReceive n bytes s
  | .reportTimerExpiry n => Sys2Proof.Machine.execReportTimerExpiry n s
  | .spurReset u => Sys2Proof.Machine.execSpurReset u s
  | .classifyFrame p u => Sys2Proof.Machine.execClassifyFrame p u s
  | .exchangeRuleset u => Sys2Proof.Machine.execExchangeRuleset u s
  | .bankRetire u => Sys2Proof.Machine.execBankRetire u s
  | .bankRestore u => Sys2Proof.Machine.execBankRestore u s
  | .scrubTimerExpiry bank => Sys2Proof.Machine.execScrubTimerExpiry bank s
  | .sampleReceive u => Sys2Proof.Machine.execSampleReceive u s
  | .staleExpiry ch => Sys2Proof.Machine.execStaleExpiry ch s
  | .resetTrip u => Sys2Proof.Machine.execResetTrip u s
  | .inhibit u => Sys2Proof.Machine.execInhibit u s
  | .endInhibit u => Sys2Proof.Machine.execEndInhibit u s
  | .inhibitExpiry ch => Sys2Proof.Machine.execInhibitExpiry ch s
  | .zoneReportPeriodic z => Sys2Proof.Machine.execZoneReportPeriodic z s
  | .zoneReportReceive u => Sys2Proof.Machine.execZoneReportReceive u s
  | .reporterAgeing z node => Sys2Proof.Machine.execReporterAgeing z node s
  | .forceZoneTrip u => Sys2Proof.Machine.execForceZoneTrip u s
  | .releaseZoneForce u => Sys2Proof.Machine.execReleaseZoneForce u s
  | .clearReporter u => Sys2Proof.Machine.execClearReporter u s
  | .relayFeedbackChange r closed => Sys2Proof.Machine.execRelayFeedbackChange r closed s
  | .mismatchTimerExpiry r => Sys2Proof.Machine.execMismatchTimerExpiry r s
  | .callSetupReceive u => Sys2Proof.Machine.execCallSetupReceive u s
  | .callAlertReceive u => Sys2Proof.Machine.execCallAlertReceive u s
  | .callConnectReceive u => Sys2Proof.Machine.execCallConnectReceive u s
  | .callVoiceReceive u => Sys2Proof.Machine.execCallVoiceReceive u s
  | .callReleaseReceive u => Sys2Proof.Machine.execCallReleaseReceive u s
  | .circuitDeadlineExpiry id => Sys2Proof.Machine.execCircuitDeadlineExpiry id s
  | .releaseCircuit u => Sys2Proof.Machine.execReleaseCircuit u s
  | .entryRequestReceive u => Sys2Proof.Machine.execEntryRequestReceive u s
  | .haulClearReceive u => Sys2Proof.Machine.execHaulClearReceive u s
  | .beaconReceive u => Sys2Proof.Machine.execBeaconReceive u s
  | .leaseExpiry seg truck => Sys2Proof.Machine.execLeaseExpiry seg truck s
  | .waitExpiry seg truck => Sys2Proof.Machine.execWaitExpiry seg truck s
  | .truckEntryExpiry truck => Sys2Proof.Machine.execTruckEntryExpiry truck s
  | .openSegment u => Sys2Proof.Machine.execOpenSegment u s
  | .closeSegment u => Sys2Proof.Machine.execCloseSegment u s
  | .releaseOccupant u => Sys2Proof.Machine.execReleaseOccupant u s
  | .gapTimerExpiry => Sys2Proof.Machine.execGapTimerExpiry s
  | .fastRepeatExpiry => Sys2Proof.Machine.execFastRepeatExpiry s
  | .slowRepeatExpiry => Sys2Proof.Machine.execSlowRepeatExpiry s
  | .ackAlarm u => Sys2Proof.Machine.execAckAlarm u s
  | .postAlarm u => Sys2Proof.Machine.execPostAlarm u s
  | .clearPosted u => Sys2Proof.Machine.execClearPosted u s
  | .alarmFrameDiscard u => Sys2Proof.Machine.execAlarmFrameDiscard u s
  | .read u => Sys2Proof.Machine.execRead u s
  | .readTrunks u => Sys2Proof.Machine.execReadTrunks u s
  | .writeNode u => Sys2Proof.Machine.execWriteNode u s
  | .writeWindows u => Sys2Proof.Machine.execWriteWindows u s
  | .writeDirection u => Sys2Proof.Machine.execWriteDirection u s
  | .writeRulesetA u => Sys2Proof.Machine.execWriteRulesetA u s
  | .writeRulesetB u => Sys2Proof.Machine.execWriteRulesetB u s
  | .writeReplyPages u => Sys2Proof.Machine.execWriteReplyPages u s
  | .writeChannels u => Sys2Proof.Machine.execWriteChannels u s
  | .writeZones u => Sys2Proof.Machine.execWriteZones u s
  | .writeRelays u => Sys2Proof.Machine.execWriteRelays u s
  | .writeSegments u => Sys2Proof.Machine.execWriteSegments u s
  | .writeRoster u => Sys2Proof.Machine.execWriteRoster u s
  | .writeActions u => Sys2Proof.Machine.execWriteActions u s
  | .writeSpurs u => Sys2Proof.Machine.execWriteSpurs u s
  | .writeOther u => Sys2Proof.Machine.execWriteOther u s
  | .clearEvents u => Sys2Proof.Machine.execClearEvents u s
  | .save u => Sys2Proof.Machine.execSave u s
  | .saveEnd stopped => Sys2Proof.Machine.execSaveEnd stopped s
  | .restart u => Sys2Proof.Machine.execRestart u s
  | .restartFlush => Sys2Proof.Machine.execRestartFlush s
  | .mgmtFrameDiscard u => Sys2Proof.Machine.execMgmtFrameDiscard u s
  | .badOperationRequest u => Sys2Proof.Machine.execBadOperationRequest u s

end Sys2Proof.Machine
end

