-- ==== Sys2Proof/Safety.lean ====
section
/-! DEFINITION. What a safe run of the GN-316 is, in the terms that claims use: the invariants of the node's parts, and the
words in which a step's frame is said. -/

namespace Sys2Proof.Machine

/-! ## The frames that the node holds -/

/-- The buffered frame in a trunk transmitter. -/
def TrunkPort.sending (t : TrunkPort) : List Stored :=
  match t.tx with
  | some (.stored f) => [f]
  | _ => []

/-- The buffered frame in a spur transmitter. -/
def SpurPort.sendingFrame (p : SpurPort) : List Stored :=
  match p.tx with
  | some (.stored f) => [f]
  | _ => []

/-- Every frame held in the buffer: waiting for CLS, on the nine queues, or being sent (R73). -/
def State.framesHeld (s : State) : List Stored :=
  s.cls.waiting.map (·.frame) ++ s.egs.toList.flatMap (·.frames) ++ s.tpe.sending ++ s.tpw.sending
    ++ s.spurs.toList.flatMap SpurPort.sendingFrame

/-- The blocks of the frames held. -/
def State.blocksHeld (s : State) : List Nat := s.framesHeld.flatMap (·.blocks)

/-! ## Invariants -/

/-- The frame buffer's account (R69, R70, R73, R76): the blocks marked held are those of the frames held, each of one frame; no
block is both free and held; a free block is of a bank IN_SERVICE, and every block of such a bank is free or held. A transmitter
holds a buffered frame only on an UP or ACTIVE port, and a spur's queue only on an ACTIVE one. -/
def State.poolSound (s : State) : Bool :=
  decide (s.blocksHeld.Perm s.fbf.held) && decide (s.fbf.free ++ s.fbf.held).Nodup
    && (s.fbf.free ++ s.fbf.held).all (· < 256)
    && s.fbf.free.all (fun b => (s.bank (bankOf b)).state == .inService)
    && (List.range 256).all (fun b =>
        (s.bank (bankOf b)).state != .inService || s.fbf.free.contains b || s.fbf.held.contains b)
    && (s.tpe.sending.isEmpty || s.up .east) && (s.tpw.sending.isEmpty || s.up .west)
    && (allFin 6).all fun n => s.active n || ((s.spur n).sendingFrame.isEmpty && (s.queue (spurQueue n)).frames.isEmpty)

/-- R76 to R78: what a bank's state says of the blocks it holds: a RETIRING bank holds some, a RETIRED or RESTORING one none. -/
def Buffer.bankSound (b : Buffer) (k : Fin 4) : Bool :=
  match b.banks[k].state with
  | .inService => true
  | .retiring => !b.bankEmpty k
  | .retired => b.bankEmpty k
  | .restoring => b.bankEmpty k

/-- R76, R79: every bank's state agrees with the blocks it holds, and the alarm reserve is what R79 says. -/
def State.banksSound (s : State) : Bool := (allFin 4).all s.fbf.bankSound && s.fbf.reserve == s.fbf.reserveNow

/-- R80: each queue stands in service order. -/
def State.queuesOrdered (s : State) : Bool :=
  s.egs.toList.all fun q => decide (q.frames.Pairwise fun a b => b.level ≤ a.level)

/-- R27, R22: the half-watts granted do not exceed the budget, and a port outside POWERED and ACTIVE has no class granted. -/
def State.powerSound (s : State) : Bool :=
  s.grantedWatts ≤ s.mge.table.budget && (allFin 6).all fun n => (s.spur n).state.powered? || (s.spur n).granted == 0

/-- R45: a window of base 0 is none; any other has stations 1 to 239, at most 16 of them, and shares none with another window. -/
def State.windowsSound (s : State) : Bool :=
  (allFin 6).all fun n =>
    let w := s.cls.windows[n]
    w.base == 0 || (w.base ≤ w.limit && w.limit ≤ 239 && w.limit ≤ w.base + 15
      && (allFin 6).all fun m =>
          let v := s.cls.windows[m]
          m == n || v.base == 0 || w.limit < v.base || v.limit < w.base)

/-- R115: an energised ZONE_PERMIT relay guards no zone that is in TRIP or not yet evaluated. -/
def State.permitsSound (s : State) : Bool :=
  (allFin 4).all fun k =>
    let r := s.relay k
    r.func != .zonePermit || !r.energised
      || (allFin 31).all fun z => !r.mask.getLsbD (z.val + 1) || ((s.zone z).evaluated && (s.zone z).combined != .trip)

/-- R140, R144: the occupants of a segment go one way, and are no more than its capacity. -/
def Segment.sound (g : Segment) : Bool :=
  g.occupants.length ≤ g.capacity && g.occupants.all fun a => g.occupants.all fun b => a.dir == b.dir

/-- R119, R124: the units reserved on each port do not exceed its voice budget; R118: no two circuits share an id. -/
def State.voiceSound (s : State) : Bool :=
  allPorts.all (fun p => s.reserved p ≤ s.budget p) && decide (s.csw.circuits.map (·.id)).Nodup

/-- R2, R3, R6, R8: a trunk port's state against its inputs and timers. -/
def TrunkPort.sound (t : TrunkPort) : Bool :=
  ((t.state == .down) == !t.signal) && !(t.state == .training && t.lock)
    && (t.helloDue.isSome == (t.state != .down)) && (t.identDue.isSome == (t.state == .identWait))
    && (t.silenceDue.isSome == (t.state == .up)) && !(t.latch && t.state != .up)

/-- Both trunk ports are sound, and ALC's island state is R4's. -/
def State.trunksSound (s : State) : Bool := s.tpe.sound && s.tpw.sound && s.alc.island == s.islandFlag

/-- The tables and lists of the node keep their sizes (section 6 of the overview). -/
def State.sizesSound (s : State) : Bool :=
  s.alc.alarms.length ≤ 32 && s.csw.circuits.length ≤ 32 && s.hlc.trucks.length ≤ 24
    && s.broadcasts.length ≤ Config.broadcastEntries && s.zones.toList.all (fun z => z.reporters.length ≤ 8)
    && s.hlc.segments.toList.all (fun g => g.waiting.length ≤ 8) && s.mge.owed.isEmpty

/-- R158: the alarm list is in its order, with one entry for each kind and source id, for each serial and for each place in the order of
serials given. R117: a RELAY_FAULT entry has zone 0. -/
def State.alarmsSound (s : State) : Bool :=
  decide (s.alc.alarms.Pairwise fun a b => a.before b) && decide (s.alc.alarms.map fun e => (e.kind, e.source)).Nodup
    && decide (s.alc.alarms.map (·.serial)).Nodup && decide (s.alc.alarms.map (·.born)).Nodup
    && s.alc.alarms.all (·.born < s.alc.born)
    && s.alc.alarms.all fun e => e.kind != .relayFault || e.zone == 0

/-- R166: the pacer in IDLE, when it may announce, leaves no entry DUE. -/
def State.pacerSound (s : State) : Bool :=
  s.alc.gapDue.isSome || s.alc.island || s.stations.isEmpty || s.alc.alarms.all (!·.due)

/-- R163 to R165, R115: what the alarm list drives stands as the rules compute it. -/
def State.outputsSound (s : State) : Bool :=
  (allFin 31).all (fun z => s.alc.lockdown[z] == s.alc.lockCount (z.val + 1))
    && (allFin 15).all (fun n => s.alc.severityFlags[n] == s.alc.severityFlag (n.val + 1))
    && (allFin 4).all (fun k => (s.relay k).energised == s.relayWants (s.relay k))
    && (allFin 6).all fun n => (allFin 16).all fun d =>
        (s.spur n).drops[d].desired == s.alc.mask n d (s.spur n).drops[d].zone

/-- R140, R151: what stands between a segment and its zone: a used segment of a zone in TRIP or in lockdown is GAS_CLOSED. -/
def State.gasSound (s : State) : Bool :=
  (allFin 16).all fun i =>
    let g := s.segment i
    g.id == 0 || !(s.combined g.zone == .trip || s.lockedDown g.zone) || g.state == .gasClosed

/-- R113: ALC's copies of the zones' combined states. -/
def State.copiesSound (s : State) : Bool := (allFin 31).all fun z => s.alc.zoneCopy[z] == (s.zone z).combined

/-- R140: no two used segments share an id, and an unused one has no trucks. -/
def State.segmentsSound (s : State) : Bool :=
  (allFin 16).all fun i =>
    let g := s.segment i
    if g.id = 0 then g.occupants.isEmpty && g.waiting.isEmpty
    else (allFin 16).all fun j => j == i || (s.segment j).id != g.id

/-- R139, R143, R144: the truck table against the segments. A truck holds at most two segments, waits on at most one list, holds no
segment that it waits for, and, while it waits, holds at most one. -/
def State.trucksSound (s : State) : Bool :=
  decide (s.hlc.trucks.map (·.id)).Nodup
    && (allFin 16).all (fun i =>
        let g := s.segment i
        g.occupants.all (fun o => (s.truck? o.truck).any fun t => t.held.contains g.id)
          && g.waiting.all (fun w => (s.truck? w.truck).any fun t => t.waiting == some g.id)
          && decide (g.occupants.map (·.truck)).Nodup && decide (g.waiting.map (·.truck)).Nodup)
    && s.hlc.trucks.all fun t =>
        decide t.held.Nodup && t.held.length + t.waiting.toList.length ≤ 2
          && t.held.all (fun id => (s.segmentOf id).any fun i => (s.segment i).holds t.id)
          && (match t.waiting with
            | none => true
            | some id => !t.held.contains id && (s.segmentOf id).any fun i => (s.segment i).waiting.any (·.truck == t.id))

/-- The roads: every segment is sound, so that no two trucks are granted one segment head-on, and the truck table agrees with the
segments. -/
def State.roadsSound (s : State) : Bool := s.hlc.segments.toList.all Segment.sound && s.segmentsSound && s.trucksSound

/-! ## Frames

Three views of a state, each with a part blanked that some of the node's operations may change: two states whose views are equal
differ at most in that part. -/

/-- The state without the traffic: the frame buffer, the queues and their counters, the event cells and the notices owed. Sending,
queueing and discarding frames change nothing else. -/
def State.quiet (s : State) : State :=
  { s with
    fbf := Buffer.powerOn
    egs := Vector.replicate 9 Queue.powerOn
    mge := { s.mge with events := 0, owed := [] } }

/-- A drop record without its output: desired mask, state, mask sent, retries. -/
def Drop.still (r : Drop) : Drop := { r with desired := 0, out := .noOutput, sent := 0, retry := 0, mismatched := false }

/-- A spur port without its outputs. -/
def SpurPort.still (p : SpurPort) : SpurPort :=
  { p with slots := Vector.replicate 4 none, setsWaiting := [], drops := vmap Drop.still p.drops }

/-- A relay without its command, its mismatch timer and its fault. -/
def Relay.still (r : Relay) : Relay := { r with energised := false, mismatchDue := none, fault := false }

/-- A segment's configuration. -/
def Segment.still (g : Segment) : Segment :=
  { g with state := .closed, commandClose := false, occupants := [], waiting := [] }

/-- HLC's configuration. -/
def HaulControl.still (h : HaulControl) : HaulControl := { h with trucks := [], segments := vmap Segment.still h.segments }

/-- ALC without the alarm list and what the list drives. -/
def AlarmControl.still (a : AlarmControl) : AlarmControl :=
  { a with
    alarms := [], serial := 0, born := 0, lockdown := Vector.replicate 31 0
    severityFlags := Vector.replicate 15 false, gapDue := none }

/-- The state without the traffic and without what a change of the alarm list moves: the list, the drops' outputs, the relays'
commands, the segments' and trucks' standing. -/
def State.still (s : State) : State :=
  { s.quiet with
    spurs := vmap SpurPort.still s.spurs
    relays := vmap Relay.still s.relays
    hlc := s.hlc.still
    alc := s.alc.still }

/-- A zone's configuration, its force flag and its reporters. -/
def Zone.still (z : Zone) : Zone :=
  { z with evaluated := false, localState := .clear, combined := .clear, lastSent := 0, gasWarn := false }

/-- The state further without what the evaluation of a zone moves: the zones' own states, ALC's copies of them, and the circuits. -/
def State.base (s : State) : State :=
  { s.still with
    zones := vmap Zone.still s.zones
    csw := { circuits := [], nextId := s.csw.nextId }
    alc := { s.alc.still with zoneCopy := Vector.replicate 31 .clear } }

/-! ## Requests and frames at hand -/

/-- No word in error lies in the frame's blocks (R74). -/
def Buffer.cleanFor (b : Buffer) (f : Stored) : Bool := b.bad.all fun w => !f.blocks.contains w.block

/-- The frame that LOCAL hands over next, to the endpoint at a station (R82): the first whose endpoint is ready, carrying `d`, not
stale, read without error. -/
def State.hands (s : State) (u : Upsets) (station : Nat) (f : Stored) (d : Frame) : Bool :=
  (s.queue localQueue).frames.find? s.endpointReady == some f && f.station == station && f.body == .drift d && !s.staleVoice f
    && (s.upsets u).fbf.cleanFor f

/-- The node once an endpoint has taken a frame from LOCAL: the frame is off the queue and its blocks are free (R73). -/
def State.taken (s : State) (u : Upsets) (f : Stored) : State := ((s.upsets u).unqueue localQueue f).free f.blocks

/-- MGE takes next a request of an authorised source that is the work of a row (R174, R175). -/
def State.asks (s : State) (u : Upsets) (f : Stored) (d : Frame) (row : Instr) : Bool :=
  s.manageReady && s.hands u 0 f d && localRow d [] == row && s.authorised d.src

/-- A COMMAND request (R179): MGE takes it next, and it carries at least `n` arguments. -/
def State.commands (s : State) (u : Upsets) (f : Stored) (d : Frame) (row : Instr) (n : Nat) : Bool :=
  s.asks u f d row && n ≤ (commandArgs d.payload).length

/-- The outcome of a request: the node after the request's effect, of which `p` holds, sends the REPLY with this status, detail and
data (R174), and the step ends. Of the effect, the sending and the end of the step change the traffic only. -/
def Answers (o : Host.Outcome State Fault Refusal) (d : Frame) (r : Refused) (data : List Nat) (p : State → Prop) : Prop :=
  ∃ s' t : State, o = .next t ∧ t = (s'.reply d r data false).settle ∧ t.quiet = s'.quiet ∧ p s'

/-- A queue has room for `n` blocks (R81). -/
def State.room (s : State) (q : Fin 9) (n : Nat) : Bool :=
  occupancy (s.queue q).frames + n ≤ s.mge.table.queueLimits[q]

/-! ## Configuration -/

/-- The configuration tables (R176, ids 1 to 13), everything else blanked. -/
def State.config (s : State) : State :=
  { State.reset with
    spurs := vmap (fun p => { SpurPort.powerOn with
      confirmMs := p.confirmMs, retryLimit := p.retryLimit
      drops := vmap (fun r => { Drop.powerOn with zone := r.zone }) p.drops }) s.spurs
    cls := { Classifier.powerOn with
      windows := s.cls.windows, direction := s.cls.direction, setA := s.cls.setA, setB := s.cls.setB, pages := s.cls.pages }
    channels := vmap (fun c => { Channel.powerOn with cfg := c.cfg }) s.channels
    zones := vmap (fun z => { Zone.powerOn with enabled := z.enabled, monitored := z.monitored, policy := z.policy }) s.zones
    relays := vmap (fun r => { Relay.powerOn with func := r.func, severity := r.severity, mask := r.mask }) s.relays
    hlc := { HaulControl.powerOn with roster := s.hlc.roster, segments := vmap Segment.still s.hlc.segments }
    alc := { AlarmControl.powerOn with actions := s.alc.actions }
    mge := { Manager.powerOn with table := s.mge.table } }

end Sys2Proof.Machine
end

