-- ==== Sys2Proof/Certificates/Slice0/Obligations.lean ====
section
/-! DEFINITION. The statements for the provers, chapter by chapter. A statement about a step says what the command's effect leaves
(`exec c s = .next t` and what `t` holds) and its frame, by one of the three views of Safety.lean. -/

open Sys2Proof Sys2Proof.Machine

/-! ## The whole node -/

/-- The block takes the command at the front of its queue, and runs it with the queue's rest. -/
def Obligations.StepRunsFrontCommand : Prop :=
  ∀ (c : Instr) (rest : List Instr) (s : State), Sys2Proof.Machine.step (s.setPending (c :: rest)) = exec c (s.setPending rest)

/-- THE MODEL'S CHOICE (notes/assumptions/1.md): with no command waiting a millisecond passes, what is due joins the queue, and nothing
else changes but that a poll's hold-off which ends at that millisecond is over. Every command completes, leaves the queue alone, and
none but POWER_ON moves the time base. -/
def Obligations.TimePassesOnlyWhenIdle : Prop :=
  (∀ s : State, ∃ t, Sys2Proof.Machine.step (s.setPending []) = .next t ∧ t.time = s.time + 1
      ∧ t.pending = s.advance.dueCommands
      ∧ (∀ n, t.spur n = { s.spur n with poll := { (s.spur n).poll with
          holdOff := if (s.spur n).poll.holdOff = some t.time then none else (s.spur n).poll.holdOff } })
      ∧ { t with time := s.time, pending := s.pending, spurs := s.spurs } = s)
  ∧ ∀ (c : Instr) (s : State), ∃ t, exec c s = .next t ∧ t.pending = s.pending
      ∧ ((∀ n, c ≠ .powerOn n) → t.time = s.time)

/-- The commands that may change a configuration table: the writes, the load and power-on. -/
def Sys2Proof.Instr.writesConfig : Instr → Bool
  | .powerOn _ => true
  | .configRecordApply _ => true
  | .writeNode _ => true
  | .writeWindows _ => true
  | .writeDirection _ => true
  | .writeRulesetA _ => true
  | .writeRulesetB _ => true
  | .writeReplyPages _ => true
  | .writeChannels _ => true
  | .writeZones _ => true
  | .writeRelays _ => true
  | .writeSegments _ => true
  | .writeRoster _ => true
  | .writeActions _ => true
  | .writeSpurs _ => true
  | _ => false

/-- Only the writes, the load and power-on change a configuration table: no traffic, no timer, no command and no reset does. -/
def Obligations.ConfigurationChangesOnlyByWrites : Prop :=
  ∀ (c : Instr) (s t : State), c.writesConfig = false → exec c s = .next t → t.config = s.config

/-! ## Reset and power-on -/

/-- What the power-on column of the manual's reset tables gives, block by block; and every invariant of Safety holds there. (Values that
the manual does not give: notes/assumptions/31.md for the poll's record, notes/assumptions/34.md for the rest.) -/
def Obligations.ResetValues : Prop :=
  let s := State.reset
  (s.time = 0 ∧ s.pending = [] ∧ s.broadcasts = []
    ∧ ∀ p, s.trunk p = { s.trunk p with
        state := .down, cause := .noCause, entered := 0, latch := false, nb := ⟨false, 0, 0, false, false, 0⟩
        helloDue := none, identDue := none, silenceDue := none, helloWaiting := false, tx := none })
  ∧ (∀ n, s.spur n = { s.spur n with
        state := .empty, fault := .noFault, entered := 0, descriptor := none, granted := 0, tries := 0, attachDue := none
        describeWaiting := false, slots := Vector.replicate 4 none, setsWaiting := []
        poll := { (s.spur n).poll with state := .idle, holdOff := none, due := none, waiting := false, sending := false }
        confirmMs := 500, retryLimit := 2, tx := none
        drops := Vector.replicate 16 ⟨false, .native, 0, 0, 0, .noOutput, 0, 0, false, false⟩ })
  ∧ (s.cls.windows = Vector.replicate 6 ⟨0, 0⟩ ∧ s.cls.direction = Vector.replicate 64 .east ∧ s.cls.live = .a
    ∧ s.cls.generation = 0 ∧ s.cls.waiting = []
    ∧ ∀ set ∈ [s.cls.setA, s.cls.setB], set.floors = Vector.replicate 8 0
        ∧ set.defaults = Vector.replicate 6 ⟨false, ⟨0, 0⟩⟩ ∧ ∀ i : Fin 8, set.filters[i] = {
          enabled := false, spurs := 0, offset := 0, mask := 0, crc := 0, last := 0, cascade := false, cls := .bulk, subtype := 0
          level := 0, dst := ⟨0, 0⟩, tag := ⟨0, 0⟩, value1 := ⟨0, 0⟩, value2 := ⟨0, 0⟩, page := some 0, reply := .noReply })
  ∧ (∀ k : Fin 8, s.cls.pages[k] = {
        used := 0, hasSum := false, sumOffset := 0, partialSum := 0, slots := Vector.replicate 4 ⟨0, 0, 0⟩
        bytes := Vector.replicate 64 0 })
  ∧ (s.fbf.free = List.range 256 ∧ s.fbf.held = [] ∧ s.fbf.reserve = 16 ∧ s.fbf.bad = []
    ∧ (∀ k, s.bank k = ⟨.inService, false, .noCause, 0, 0, none⟩) ∧ ∀ q, s.queue q = ⟨[], 0, 0, 0⟩)
  ∧ (∀ c, s.channel c = {
      cfg := {
        enabled := false, source := ⟨0, 0⟩, gas := .ch4, zone := 0, sense := .high, zeroOffset := 0, gain := 4096
        fullScale := 16383, shift := 0, warn := 16382, trip := 16383, hysteresis := 0, riseWindow := 0, riseLimit := 65535
        staleLimit := 30, failTrips := true, latch := false, overTrips := true }
      state := .starting, computed := .starting, causes := ⟨false, false, false, false⟩, flags := ⟨false, false, false⟩
      latched := false, lastRaw := 0, calibrated := 0, smoothed := 0, lastValid := 0, markValue := 0, markTime := 0
      inhibitEnd := 0 })
  ∧ (∀ z, s.zone z = {
      enabled := false, monitored := false, policy := .close, force := false, evaluated := false, localState := .clear
      combined := .clear, reporters := [], lastSent := 0, gasWarn := false })
  ∧ (∀ k, s.relay k = {
      func := .noFunction, severity := 15, mask := 0, energised := false, closed := false, mismatchDue := none, fault := false })
  ∧ (s.csw = ⟨[], 0⟩ ∧ s.hlc.trucks = [] ∧ (∀ i : Fin 64, s.hlc.roster[i] = ⟨0, false, false⟩) ∧ ∀ g, s.segment g = {
      id := 0, zone := 0, capacity := 1, lease := 120, waitLimit := 300, autoReopen := false, state := .closed
      commandClose := false, occupants := [], waiting := [] })
  ∧ s.alc = {
      alarms := [], serial := 0, born := 0, actions := Vector.replicate 16 ⟨.announce, 8, 0, .sourceDrop⟩
      lockdown := Vector.replicate 31 0, island := true, zoneCopy := Vector.replicate 31 .clear
      severityFlags := Vector.replicate 15 false, gapDue := none, fastDue := 10000, slowDue := 60000 }
  ∧ s.mge = {
      table := {
        ring := 0, node := 0, station1 := ⟨0, 0⟩, station2 := ⟨0, 0⟩, budget := 24, correctedLimit := 1000, airFloor := 400
        enables := 0, queueLimits := Vector.replicate 9 48, voice := #v[24, 24, 8, 8, 8, 8, 8, 8] }
      events := 0, owed := [], restarting := false }
  ∧ (s.cfl.load = .loading ∧ s.cfl.position = 0 ∧ s.cfl.applied = 0 ∧ s.cfl.stopTable = 0 ∧ s.cfl.stopIndex = 0
    ∧ s.cfl.stopCause = .noCause ∧ s.cfl.saving = none ∧ s.cfl.lastSave = .noResult)
  ∧ (s.poolSound = true ∧ s.banksSound = true ∧ s.queuesOrdered = true ∧ s.powerSound = true ∧ s.windowsSound = true
    ∧ s.permitsSound = true ∧ s.roadsSound = true ∧ s.voiceSound = true ∧ s.trunksSound = true ∧ s.sizesSound = true
    ∧ s.alarmsSound = true ∧ s.outputsSound = true ∧ s.gasSound = true ∧ s.copiesSound = true ∧ s.pacerSound = true)

/-- The state that a trunk port comes to from DOWN, by its inputs (R2, R3). -/
def Sys2Proof.Machine.linkFrom (signal lock : Bool) : LinkState := if signal then (if lock then .identWait else .training) else .down

/-- The HELLO as R4 builds it, from the state of the ports at the moment. -/
def Sys2Proof.Machine.helloOf (s : State) : Frame where
  cls := .ident
  level := 15
  hop := 127
  wrapped := false
  dst := ⟨63, 0⟩
  src := ⟨s.node, 0⟩
  zone := 0
  subtype := 0
  tag := 0
  payload := bytes16 s.mge.table.ring ++ [byte s.node, byte (flag s.wrapFlag + 2 * flag s.islandFlag)]

/-- R183: the configuration memory once power has gone when `n` bytes of a running SAVE had reached it: the new bytes in place of the
first ones, the older ones behind them. Without a running SAVE it is as it was. -/
def Sys2Proof.Machine.cutOffSave (l : Loader) (n : Nat) : Option (List Byte) :=
  match l.memory, l.saving with
  | some m, some image => some (image.take n ++ m.drop (image.take n).length)
  | m, _ => m

/-- POWER_ON: every block takes the power-on values that ResetValues lists and the load begins; a port whose signal or presence input is
high leaves its first state at once, which alone raises an event; a port that comes to IDENT_WAIT sends its HELLO. The configuration
memory keeps what a SAVE that power has cut off had written, with the older records behind. Without a configuration memory the load is
over at once, and every zone has been evaluated. (That inputs and waiting commands stay, and that the command's operand counts the bytes
written, is THE MODEL'S CHOICE: notes/assumptions/7.md; and so is the growth of a memory shorter than the copy: notes/assumptions/28.md.
That a channel's last valid and mark times read 0: notes/assumptions/34.md.) -/
def Obligations.PowerOnStartsTheNode : Prop :=
  ∀ (n : Nat) (s : State), ∃ t, exec (.powerOn n) s = .next t
    ∧ t.time = 0 ∧ t.cls = Classifier.powerOn ∧ t.hlc = HaulControl.powerOn ∧ t.csw = ⟨[], 0⟩ ∧ t.broadcasts = []
    ∧ t.fbf = Buffer.powerOn ∧ (∀ q, t.queue q = Queue.powerOn) ∧ (∀ c, t.channel c = Channel.powerOn)
    ∧ (∀ z, t.zone z = { Zone.powerOn with evaluated := s.cfl.memory.isNone }) ∧ t.alc = AlarmControl.powerOn
    ∧ t.mge.table = NodeTable.powerOn ∧ t.mge.restarting = false ∧ t.mge.owed = []
    ∧ (∀ e, t.mge.has e = true ↔ (e = .trunkChange ∧ ∃ p, (s.trunk p).signal = true)
        ∨ (e = .spurChange ∧ ∃ k, (s.spur k).pres = true))
    ∧ (∀ p,
        let x := s.trunk p
        t.trunk p = { TrunkPort.powerOn with
          signal := x.signal, lock := x.lock, state := linkFrom x.signal x.lock
          helloDue := if x.signal then some 500 else none, identDue := if x.signal && x.lock then some 2000 else none
          tx := if x.signal && x.lock then some (.hello (helloOf t)) else none })
    ∧ (∀ k,
        let x := s.spur k
        t.spur k = { SpurPort.powerOn with
          pres := x.pres, attn := x.attn, ocLow := x.ocLow, state := if x.pres then .detected else .empty
          attachDue := if x.pres then some 100 else none })
    ∧ (∀ r, t.relay r = { Relay.powerOn with
        closed := (s.relay r).closed, mismatchDue := if (s.relay r).closed then some 200 else none })
    ∧ t.cfl = { Loader.powerOn with load := if s.cfl.memory.isSome then .loading else .absent, memory := cutOffSave s.cfl n }
    ∧ t.pending = s.pending

/-! ## Chapter 1: the trunk ring -/

/-- The record of a trunk port that has entered IDENT_WAIT with its transmitter free: its HELLO is on its way. -/
def Sys2Proof.Machine.inIdentWait (s : State) (x : TrunkPort) (h : Frame) : TrunkPort :=
  let y := { x with
    state := .identWait, entered := s.time, helloDue := some (s.after 500), identDue := some (s.after 2000) }
  match x.tx with
  | none => { y with tx := some (.hello h), helloWaiting := false }
  | some _ => { y with helloWaiting := true }

/-- TRUNK_SIGNAL_RISE and TRUNK_LOCK_RISE: from DOWN to TRAINING, and from TRAINING to IDENT_WAIT with a HELLO at once; in any other
state only the input changes. HELLO_TIMER_EXPIRY: the timer restarts at 500 ms, and the HELLO of the moment goes into a free
transmitter, or waits for a busy one. -/
def Obligations.TrunkInputsRiseAndHelloGoes : Prop :=
  (∀ (p : TPort) (s : State),
      let x := s.trunk p
      (x.state = .down →
        ∃ t, exec (.trunkSignalRise p) s = .next t ∧ t.mge.has .trunkChange = true
          ∧ t.quiet = (s.setTrunk p (
              let y := { x with signal := true, state := .training, entered := s.time, helloDue := some (s.after 500) }
              if x.lock then inIdentWait s y (helloOf s) else y)).quiet)
      ∧ (x.state ≠ .down →
        ∃ t, exec (.trunkSignalRise p) s = .next t ∧ t.quiet = (s.setTrunk p { x with signal := true }).quiet)
      ∧ (x.state = .training →
        ∃ t, exec (.trunkLockRise p) s = .next t ∧ t.mge.has .trunkChange = true
          ∧ t.quiet = (s.setTrunk p (inIdentWait s { x with lock := true } (helloOf s))).quiet)
      ∧ (x.state ≠ .training →
        ∃ t, exec (.trunkLockRise p) s = .next t ∧ t.quiet = (s.setTrunk p { x with lock := true }).quiet))
  ∧ ∀ (p : TPort) (s : State), (s.trunk p).state ≠ .down → s.expired (s.trunk p).helloDue = true →
      ∃ t, exec (.helloTimerExpiry p) s = .next t
        ∧ t.quiet = (s.setTrunk p (
            let y := { s.trunk p with helloDue := some (s.after 500) }
            if (s.trunk p).tx = none then { y with tx := some (.hello (helloOf s)), helloWaiting := false }
            else { y with helloWaiting := true })).quiet

/-- The record of a trunk port that has gone through DOWN for a cause (R2, R8). -/
def Sys2Proof.Machine.throughDown (s : State) (x : TrunkPort) (cause : LinkCause) (h : Frame) : TrunkPort :=
  { x with
    state := linkFrom x.signal x.lock
    cause, entered := s.time
    latch := x.latch && x.state != .up
    helloDue := if x.signal then some (s.after 500) else none
    identDue := if x.signal && x.lock then some (s.after 2000) else none
    silenceDue := none
    helloWaiting := false
    tx := if x.signal && x.lock then some (.hello h) else none }

/-- What a loss on one trunk port leaves alone: the other port's record, the time base, the classifier, the gas channels, the
zones, the broadcast memory, the configuration. -/
def Sys2Proof.Machine.trunkFrame (p : TPort) (s t : State) : Prop :=
  t.trunk p.other = s.trunk p.other ∧ t.time = s.time ∧ t.cls = s.cls ∧ t.channels = s.channels ∧ t.zones = s.zones
    ∧ t.broadcasts = s.broadcasts ∧ t.cfl = s.cfl ∧ t.config = s.config

/-- TRUNK_SIGNAL_LOSS, TRUNK_LOCK_LOSS, IDENT_TIMER_EXPIRY and SILENCE_TIMER_EXPIRY: the record of the port after each, and TRUNK_CHANGE,
which every change of a port's state raises (R1). -/
def Obligations.TrunkLossesAndTimers : Prop :=
  ∀ (p : TPort) (s : State),
    let x := s.trunk p
    (x.signal = true →
      ∃ t, exec (.trunkSignalLoss p) s = .next t ∧ trunkFrame p s t ∧ t.mge.has .trunkChange = true
        ∧ t.trunk p = throughDown s { x with signal := false } .signalLost (helloOf t))
    ∧ (x.state = .identWait ∨ x.state = .up →
      ∃ t, exec (.trunkLockLoss p) s = .next t ∧ trunkFrame p s t ∧ t.mge.has .trunkChange = true
        ∧ t.trunk p = { x with
            lock := false, state := .training, cause := .lockLost, entered := s.time, latch := x.latch && x.state != .up
            identDue := none, silenceDue := none, tx := if x.state = .up then none else x.tx })
    ∧ (x.state ≠ .identWait ∧ x.state ≠ .up →
      ∃ t, exec (.trunkLockLoss p) s = .next t ∧ t.quiet = (s.setTrunk p { x with lock := false }).quiet)
    ∧ (x.state = .identWait ∧ s.expired x.identDue = true →
      ∃ t, exec (.identTimerExpiry p) s = .next t ∧ trunkFrame p s t ∧ t.mge.has .trunkChange = true
        ∧ t.trunk p = (
            let y := { x with cause := .identTimeout, identDue := none, state := .training, entered := s.time }
            if x.lock then inIdentWait s y (helloOf t) else y))
    ∧ (x.state = .up ∧ s.expired x.silenceDue = true →
      ∃ t, exec (.silenceTimerExpiry p) s = .next t ∧ trunkFrame p s t ∧ t.mge.has .trunkChange = true
        ∧ t.trunk p = throughDown s x .silent (helloOf t))

/-- An alarm condition stands on the list as active. -/
def Sys2Proof.Machine.AlarmControl.holdsActive (a : AlarmControl) (k : AlarmKind) (source : Nat) : Bool :=
  a.alarms.any fun e => e.kind == k && e.source == source && e.active

/-- The TRUNK_LOSS source id of R9. -/
def Sys2Proof.Machine.lossSource : TPort → Nat
  | .east => 1
  | .west => 2

/-- R19: the frame that joins the other trunk port's queue when a frame on the queue of a port that leaves UP is decided again; none for
one that is discarded. -/
def Sys2Proof.Machine.movedBy (otherUp : Bool) (f : Stored) : Option Stored :=
  match f.body, f.origin with
  | .raw _, _ => none
  | .drift _, .call _ _ _ => none
  | .drift d, .transit _ => if otherUp = true ∧ d.wrapped = false then some { f with body := .drift { d with wrapped := true } } else none
  | .drift _, _ => if otherUp then some f else none

/-- R19, R21: a frame of such a queue whose discard raises NO_ROUTE: a unicast in transit, or a frame from a spur. -/
def Sys2Proof.Machine.lostWithEvent (otherUp : Bool) (f : Stored) : Bool :=
  (movedBy otherUp f).isNone && match f.body, f.origin with
    | .drift d, .transit _ => d.dst.node != 63
    | .drift _, .spur => true
    | _, _ => false

/-- R19, R21, R133: the frames on the queue of a port that leaves UP are decided again, and the blocks they come from are told: CSW of
every SETUP, ALERT and CONNECT, and ALC of an ANNOUNCE that finds no port. Beside the circuits that CSW then releases, those that use the
port are released, and no other. (That a frame's circuit is the one which its tag names at that moment, though the id may have been given
to another since, is THE MODEL'S CHOICE: notes/assumptions/40.md.) Where nothing else is sent in the step (no control station, no circuit,
the outputs as the alarm list has them) and the other queue has room, that queue takes the frames moved, in their order and by their
levels, NO_ROUTE is raised only as R19 says, and a discarded frame holds no block. -/
def Sys2Proof.Machine.decidedAgain (p : TPort) (s t : State) : Prop :=
  let fs := (s.queue (trunkQueue p)).frames
  let other := s.up p.other
  let q := trunkQueue p.other
  let moved := fs.filterMap (movedBy other)
  let told (id : Nat) : Bool := fs.any fun f => match f.origin with
    | .call i _ subtype => i == id && subtype ≤ 2
    | _ => false
  (s.voiceSound = true →
      t.csw.circuits = s.csw.circuits.filter fun c => !told c.id && c.sideA != .trunk p && c.sideB != .trunk p)
    ∧ (s.alc.gapDue ≠ none ∨ s.alc.island = true → ∀ f ∈ fs, ∀ serial, f.origin = .announce serial → other = false →
        ∀ e ∈ t.alc.alarms, e.serial = serial → e.acked = false → e.due = true)
    ∧ (s.mge.table.station1 = ⟨0, 0⟩ → s.mge.table.station2 = ⟨0, 0⟩ → s.csw.circuits = [] → s.outputsSound = true →
        s.alc.alarms.length < 32 → s.room q (occupancy moved) = true →
        (t.queue q).frames = moved.foldl (fun l f => insertByLevel { f with entry := some (f.entry.getD s.time) } l) (s.queue q).frames
          ∧ (∀ r, r ≠ q → r ≠ trunkQueue p → t.queue r = s.queue r)
          ∧ t.mge.has .noRoute = (s.mge.has .noRoute || fs.any (lostWithEvent other))
          ∧ (s.poolSound = true → ∀ f ∈ fs, movedBy other f = none → ∀ b ∈ f.blocks, b ∉ t.fbf.held))

/-- R9 and R19, whatever command is the cause: what goes with a trunk port's leaving UP and entering it. (POWER_ON is a reset and no such
change. A list that is full of other entries may refuse the alarm, R160. The order of the effects: notes/assumptions/15.md. The circuit
that a frame decided again names: THE MODEL'S CHOICE, notes/assumptions/40.md.) -/
def Obligations.LeavingAndEnteringUp : Prop :=
  ∀ (c : Instr) (p : TPort) (s t : State), (∀ n, c ≠ .powerOn n) → s.alarmsSound = true →
    exec c s = .next t →
    ((s.trunk p).state = .up → (t.trunk p).state ≠ .up →
        (t.trunk p).latch = false ∧ (t.queue (trunkQueue p)).frames = []
          ∧ (∀ x ∈ t.csw.circuits, x.sideA ≠ .trunk p ∧ x.sideB ≠ .trunk p)
          ∧ (s.alc.alarms.length < 32 → t.alc.holdsActive .trunkLoss (lossSource p) = true)
          ∧ (s.up p.other = false → t.alc.island = true) ∧ decidedAgain p s t)
      ∧ ((s.trunk p).state ≠ .up → (t.trunk p).state = .up →
        t.alc.holdsActive .trunkLoss (lossSource p) = false ∧ (s.up p.other = false → t.alc.island = false))

/-- The neighbour that a HELLO's payload names (R5). -/
def Sys2Proof.Machine.neighbourOf (d : Frame) (now : Time) : Neighbour where
  valid := true
  ring := halfAt d.payload 0
  node := byteAt d.payload 2
  wrap := (byteAt d.payload 3).testBit 0
  island := (byteAt d.payload 3).testBit 1
  lastHello := now

/-- R5's cause for failing a neighbour; none when its HELLO is acceptable. -/
def Sys2Proof.Machine.helloCause (m : NodeTable) (nb : Neighbour) : Option LinkCause :=
  if m.node = 0 ∨ nb.node = 0 ∨ (nb.ring = m.ring ∧ nb.node ≠ m.node) then none
  else if nb.ring ≠ m.ring then some .ringMismatch
  else some .nodeClash

/-- An ident or silence expiry has taken the port through TRAINING at this very moment, so that a frame which comes together with it, and
after it, is lost (R6, R8). (That together means within one millisecond of the time base: notes/assumptions/42.md.) -/
def Sys2Proof.Machine.lostNow (t : TrunkPort) (now : Time) : Prop :=
  t.state = .identWait ∧ t.entered = now ∧ (t.cause = .identTimeout ∨ t.cause = .silent)

/-- HELLO_RECEIVE: the neighbour record and R5's table of states, with TRUNK_CHANGE for a change of state and for no other HELLO. (When a
HELLO is lost to an expiry of its moment: notes/assumptions/42.md.) -/
def Obligations.HelloReceiveMovesLink : Prop :=
  ∀ (p : TPort) (bytes : List Byte) (d : Frame) (s : State), (s.trunk p).state.receives = true → ¬lostNow (s.trunk p) s.time →
    trunkCheck bytes = some d → d.isHello = true →
    let x := { s.trunk p with nb := neighbourOf d s.time }
    ∃ t, exec (.helloReceive p bytes) s = .next t ∧ trunkFrame p s t
      ∧ t.mge.has .trunkChange = (s.mge.has .trunkChange || (t.trunk p).state != (s.trunk p).state)
      ∧ t.trunk p = (match x.state, helloCause s.mge.table x.nb with
        | .identWait, none =>
          { x with state := .up, entered := s.time, identDue := none, silenceDue := some (s.after 2000) }
        | .identWait, some cause => { x with state := .mismatch, cause, entered := s.time, identDue := none }
        | .up, none => { x with silenceDue := some (s.after 2000) }
        | .up, some cause =>
          { x with state := .mismatch, cause, entered := s.time, silenceDue := none, latch := false, tx := none }
        | _, _ => x)

/-- R12: bytes that fail an arrival check of a trunk port. -/
def Sys2Proof.Machine.malformedOnTrunk (bytes : List Byte) : Bool :=
  !crcGood bytes || 8 ≤ byteAt bytes 0 / 16 || byteAt bytes 0 / 16 == 7
    || 240 < byteAt bytes 7 || bytes.length != 12 + byteAt bytes 7
    || byteAt bytes 2 == 0 || 64 ≤ byteAt bytes 2
    || (byteAt bytes 0 / 16 == 0 && byteAt bytes 6 % 8 != 0)
    || (byteAt bytes 0 / 16 == 0 && (byteAt bytes 7 < 4 || 62 < byteAt bytes 12))

/-- Section 11.1: the bytes carry the fields of this frame. -/
def Sys2Proof.Machine.carries (bytes : List Byte) (d : Frame) : Prop :=
  d.cls.ctorIdx = byteAt bytes 0 / 16 ∧ d.level = byteAt bytes 0 % 16 ∧ d.hop = byteAt bytes 1 / 2
    ∧ d.wrapped = (byteAt bytes 1).testBit 0 ∧ d.dst = ⟨byteAt bytes 2, byteAt bytes 3⟩
    ∧ d.src = ⟨byteAt bytes 4, byteAt bytes 5⟩ ∧ d.zone = byteAt bytes 6 / 8 ∧ d.subtype = byteAt bytes 6 % 8
    ∧ d.tag = halfAt bytes 8 ∧ d.payload = (bytes.drop 10).take (byteAt bytes 7)

/-- R12: what a trunk port reads in the bytes of a frame. -/
def Sys2Proof.Machine.readOnTrunk (bytes : List Byte) : Prop :=
  (malformedOnTrunk bytes = true → trunkCheck bytes = none)
    ∧ (malformedOnTrunk bytes = false → ∃ d, trunkCheck bytes = some d ∧ carries bytes d)

/-- R70, R71: FBF accepts a frame of this body: of 1 block for up to 128 bytes and 2 for more, against the `F` blocks of the free pool
and, but for the classes IDENT, ALARM and MGMT, the alarm reserve. Foreign bytes and reply pages are raw bodies. -/
def Sys2Proof.Machine.acceptedByRule (b : Buffer) (body : Body) : Prop :=
  let F := b.free.length
  let size := match body with
    | .drift d => 12 + d.payload.length
    | .raw bytes => bytes.length
  let n := if size ≤ 128 then 1 else 2
  let reserved : Bool := match body with
    | .drift d => d.cls == .ident || d.cls == .alarm || d.cls == .mgmt
    | .raw _ => false
  if reserved then n ≤ F else n ≤ F ∧ b.reserve ≤ F - n

/-- TRUNK_FRAME_RECEIVE, the checks: deaf in DOWN and TRAINING; MALFORMED and nothing else but the silence timer for bytes that fail R12;
no effect for a good frame that is no HELLO in IDENT_WAIT and MISMATCH; QUEUE_DISCARD where FBF refuses it in UP. A frame that follows the
ident expiry or the silence expiry of its moment is lost, whatever the port has gone on to (R6, R8). (The moment:
notes/assumptions/42.md.) Bytes that pass R12's checks are accepted, and read field by field as section 11.1 lays the frame out. FBF's
test is R71's for whatever body it is offered, a refusal raises QUEUE_DISCARD alone, and an accepted frame takes its blocks from the head
of the pool. -/
def Obligations.TrunkArrivalChecks : Prop :=
  (∀ (p : TPort) (bytes : List Byte) (s : State),
    ((s.trunk p).state.receives = false ∨ lostNow (s.trunk p) s.time →
      (∃ t, exec (.trunkFrameReceive p bytes) s = .next t ∧ t.quiet = s.quiet)
      ∧ ∃ t, exec (.helloReceive p bytes) s = .next t ∧ t.quiet = s.quiet)
    ∧ (∀ c, (c = .identTimerExpiry p ∧ (s.trunk p).state = .identWait ∧ s.expired (s.trunk p).identDue = true)
        ∨ (c = .silenceTimerExpiry p ∧ (s.trunk p).state = .up ∧ s.expired (s.trunk p).silenceDue = true) →
      ∃ t, exec c s = .next t ∧ ∃ u, exec (.helloReceive p bytes) t = .next u ∧ u.quiet = t.quiet)
    ∧ ((s.trunk p).state.receives = true → ¬lostNow (s.trunk p) s.time → malformedOnTrunk bytes = true →
      ∃ t, exec (.trunkFrameReceive p bytes) s = .next t ∧ t.mge.has .malformed = true ∧ t.quiet = (s.heard p bytes).quiet)
    ∧ (∀ d, trunkCheck bytes = some d → d.isHello = false →
      ((s.trunk p).state = .identWait ∨ (s.trunk p).state = .mismatch →
        ∃ t, exec (.trunkFrameReceive p bytes) s = .next t ∧ t.quiet = s.quiet)
      ∧ ((s.trunk p).state = .up → s.fbf.admits d.cls (blocksFor bytes.length) = false →
        ∃ t, exec (.trunkFrameReceive p bytes) s = .next t ∧ t.mge.has .queueDiscard = true
          ∧ t.quiet = (s.heard p bytes).quiet)))
  ∧ (∀ bytes : List Byte, readOnTrunk bytes)
  ∧ (∀ (b : Buffer) (c : FrameClass) (n : Nat), b.admits c n = true ↔
      if c = .ident ∨ c = .alarm ∨ c = .mgmt then n ≤ b.free.length else n ≤ b.free.length ∧ b.reserve ≤ b.free.length - n)
  ∧ ∀ (f : Stored) (s : State),
      (acceptedByRule s.fbf f.body →
        (s.store f).1 = some { f with blocks := s.fbf.free.take (blocksFor f.body.size) }
          ∧ (s.store f).2.fbf.free = s.fbf.free.drop (blocksFor f.body.size))
      ∧ (¬acceptedByRule s.fbf f.body → s.store f = (none, s.raise .queueDiscard))

/-- The frame that a port's bytes are stored as, with the blocks it takes (R70). -/
def Sys2Proof.Machine.storedFrom (s : State) (p : TPort) (d : Frame) : Stored where
  body := .drift d
  level := d.level
  blocks := s.fbf.free.take (blocksFor (12 + d.payload.length))
  origin := .transit p
  arrival := some (.trunk p)
  ctx := none
  target := .allDrops
  entry := none

/-- A frame has joined queue `q`, which had room, with the body given; no other queue has changed. -/
def Sys2Proof.Machine.joined (q : Fin 9) (f : Stored) (s t : State) : Prop :=
  t.queue q = { s.queue q with
      frames := insertByLevel { f with entry := some (f.entry.getD s.time) } (s.queue q).frames }
    ∧ ∀ r, r ≠ q → t.queue r = s.queue r

/-- Unicast on an UP port. For another node: one that has come round, or whose hop count is spent, or that would turn a second time, is
discarded with NO_ROUTE; any other goes on by the opposite port, or is turned back with WRAPPED set. On a full queue it pushes out the
last frames of lower level until it fits, or is refused when all of them would not be enough (R81). For this node: it is handed to CLS,
whatever its hop count and WRAPPED. (FBF's test: TrunkArrivalChecks. The order in which a refused frame's blocks rejoin the pool:
notes/assumptions/37.md.) -/
def Obligations.UnicastIsForwardedOrDelivered : Prop :=
  (∀ (p : TPort) (bytes : List Byte) (d : Frame) (s : State), (s.trunk p).state = .up → trunkCheck bytes = some d →
      d.isHello = false → 1 ≤ d.dst.node → d.dst.node ≤ 62 → d.dst.node ≠ s.node → s.mge.owed = [] →
      s.fbf.admits d.cls (blocksFor (12 + d.payload.length)) = true →
      let n := blocksFor (12 + d.payload.length)
      let f := storedFrom s p d
      let h := s.heard p bytes
      if (d.src.node = s.node ∧ d.wrapped = false) ∨ d.hop ≤ 1 ∨ (d.wrapped = true ∧ s.up p.other = false) then
        ∃ t, exec (.trunkFrameReceive p bytes) s = .next t ∧ t.mge.has .noRoute = true ∧ t.quiet = h.quiet
      else
        let q := if s.up p.other then trunkQueue p.other else trunkQueue p
        let wrapped := d.wrapped || !s.up p.other
        let g := { f with body := .drift { d with hop := d.hop - 1, wrapped } }
        let x := s.queue q
        let limit := s.mge.table.queueLimits[q]
        (s.room q n = true →
          ∃ t, exec (.trunkFrameReceive p bytes) s = .next t ∧ t.quiet = h.quiet ∧ t.mge = s.mge
            ∧ t.fbf.free = s.fbf.free.drop n ∧ joined q g s t)
        ∧ (s.mge.table.enables = 0 → limit < occupancy (x.frames.filter (d.level ≤ ·.level)) + n →
          ∃ t, exec (.trunkFrameReceive p bytes) s = .next t ∧ t.quiet = h.quiet ∧ t.mge.has .queueDiscard = true
            ∧ t.queue q = { x with refusals := countUp x.refusals } ∧ (∀ r, r ≠ q → t.queue r = s.queue r)
            ∧ (s.poolSound = true → t.fbf.free = s.fbf.free.drop n ++ s.fbf.free.take n))
        ∧ ∀ kept y out, s.mge.table.enables = 0 → x.frames = kept ++ y :: out → (∀ z ∈ y :: out, z.level < d.level) →
          occupancy kept + n ≤ limit → limit < occupancy (kept ++ [y]) + n →
          ∃ t, exec (.trunkFrameReceive p bytes) s = .next t ∧ t.quiet = h.quiet ∧ t.mge.has .queueDiscard = true
            ∧ t.queue q = { x with
                frames := insertByLevel { g with entry := some s.time } kept
                pushOuts := (y :: out).foldl (fun k _ => countUp k) x.pushOuts }
            ∧ ∀ r, r ≠ q → t.queue r = s.queue r)
  ∧ ∀ (p : TPort) (bytes : List Byte) (d : Frame) (s : State), (s.trunk p).state = .up → trunkCheck bytes = some d →
      d.isHello = false → d.dst.node = s.node → s.mge.owed = [] →
      s.fbf.admits d.cls (blocksFor (12 + d.payload.length)) = true →
      ∃ t, exec (.trunkFrameReceive p bytes) s = .next t ∧ t.egs = s.egs
        ∧ t.cls.waiting = s.cls.waiting ++ [⟨.trunk p, 0, .native, 0, storedFrom s p d⟩]
        ∧ t.fbf.free = s.fbf.free.drop (blocksFor (12 + d.payload.length))
        ∧ { t with cls := s.cls }.quiet = (s.heard p bytes).quiet

/-- A broadcast that carries the same source, class, subtype, tag, length and payload check (R17). -/
def Sys2Proof.Machine.sameBroadcast (d : Frame) (e : BroadcastEntry) : Bool :=
  e.src == d.src && e.cls == d.cls && e.subtype == d.subtype && e.tag == d.tag && e.len == d.payload.length
    && e.check == crc16 d.payload

/-- The broadcast memory after a broadcast: recorded when it arrives unwrapped and is not ours, the oldest like it removed when it
arrives wrapped. -/
def Sys2Proof.Machine.memoryAfter (s : State) (d : Frame) : List BroadcastEntry :=
  if d.src.node = s.node then s.broadcasts
  else if d.wrapped then s.broadcasts.eraseP (sameBroadcast d)
  else (if 64 ≤ s.broadcasts.length then s.broadcasts.drop 1 else s.broadcasts)
    ++ [⟨d.src, d.cls, d.subtype, d.tag, d.payload.length, crc16 d.payload, s.time⟩]

/-- A broadcast on an UP port: delivery by R16 and the broadcast memory of R17, and forwarding by R16. The local copy of one that is
forwarded waits for CLS in blocks of its own, or is refused with QUEUE_DISCARD (that it is offered at once, and that its entry then stays:
notes/assumptions/16.md).
BROADCAST_MEMORY_AGEING: the entries of 500 ms and more are gone, the others stay in order, and nothing else changes. -/
def Obligations.BroadcastsAreDeliveredAndForwarded : Prop :=
  (∀ (p : TPort) (bytes : List Byte) (d : Frame) (s : State), (s.trunk p).state = .up → trunkCheck bytes = some d →
      d.isHello = false → d.dst.node = 63 → s.node ≠ 63 → s.mge.owed = [] → s.poolSound = true → s.banksSound = true →
      s.fbf.admits d.cls (blocksFor (12 + d.payload.length)) = true →
      let n := blocksFor (12 + d.payload.length)
      let q := if s.up p.other then trunkQueue p.other else trunkQueue p
      let wrapped := d.wrapped || !s.up p.other
      let own := d.src.node = s.node
      let goesOn := ¬((own ∧ d.wrapped = false) ∨ d.hop ≤ 1 ∨ (d.wrapped = true ∧ s.up p.other = false))
      let delivered := ¬own ∧ (d.wrapped = false ∨ ¬ s.broadcasts.any (sameBroadcast d))
      let copies := s.fbf.admits d.cls (n + n) = true
      let waits (blocks : List Nat) (t : State) : Prop :=
        t.cls = { s.cls with
          waiting := s.cls.waiting ++ [⟨.trunk p, 0, .native, 0, { storedFrom s p d with blocks }⟩] }
      s.room q n = true →
        ∃ t, exec (.trunkFrameReceive p bytes) s = .next t ∧ t.broadcasts = memoryAfter s d
          ∧ (goesOn → ¬delivered ∨ copies ∨ s.mge.table.enables = 0 →
              joined q { storedFrom s p d with body := .drift { d with hop := d.hop - 1, wrapped } } s t)
          ∧ (¬goesOn → t.egs = s.egs)
          ∧ (delivered → ¬goesOn → waits (s.fbf.free.take n) t)
          ∧ (delivered → goesOn → copies → waits ((s.fbf.free.drop n).take n) t)
          ∧ (delivered → goesOn → ¬copies → t.cls = s.cls ∧ t.mge.has .queueDiscard = true)
          ∧ (¬delivered → t.cls = s.cls)
          ∧ { t with cls := s.cls, broadcasts := s.broadcasts }.quiet = (s.heard p bytes).quiet)
  ∧ ∀ s : State, s.mge.owed = [] →
      exec .broadcastMemoryAgeing s = .next (s.setBroadcasts (s.broadcasts.filter fun e => decide ((s.time - e.time).toNat < 500)))

/-- TRUNK_TRANSMIT_DONE: the frame sent frees its blocks; a waiting HELLO, built now, goes first; in UP the head of the queue
follows, when it is not stale voice and reads cleanly. Stale voice is counted and discarded at its turn, and the next frame follows. -/
def Obligations.TrunkTransmitterTakesNext : Prop :=
  ∀ (p : TPort) (u : Upsets) (s : State),
    let x := s.trunk p
    (x.state ≠ .down → x.helloWaiting = true →
      ∃ t, exec (.trunkTransmitDone p u) s = .next t
        ∧ t.quiet = (s.setTrunk p { x with helloWaiting := false, tx := some (.hello (helloOf s)) }).quiet)
    ∧ (x.state ≠ .up → (x.state = .down ∨ x.helloWaiting = false) →
      ∃ t, exec (.trunkTransmitDone p u) s = .next t ∧ t.quiet = (s.setTrunk p { x with tx := none }).quiet)
    ∧ (x.state = .up → x.helloWaiting = false → (s.queue (trunkQueue p)).frames = [] →
      ∃ t, exec (.trunkTransmitDone p u) s = .next t ∧ t.quiet = (s.setTrunk p { x with tx := none }).quiet)
    ∧ (∀ f rest, x.state = .up → x.helloWaiting = false → (s.queue (trunkQueue p)).frames = f :: rest →
      s.staleVoice f = false → ((s.upsets u).trunkCutOff p).fbf.cleanFor f = true →
      ∃ t, exec (.trunkTransmitDone p u) s = .next t ∧ (t.trunk p).tx = some (.stored f)
        ∧ t.quiet = (s.setTrunk p { x with tx := some (.stored f) }).quiet
        ∧ (s.mge.owed = [] → s.mge.table.enables = 0 → (t.queue (trunkQueue p)).frames = rest))
    ∧ (∀ f rest, x.state = .up → x.helloWaiting = false → (s.queue (trunkQueue p)).frames = f :: rest →
      s.staleVoice f = true → s.mge.owed = [] → s.mge.table.enables = 0 →
      let stale := countUp (s.queue (trunkQueue p)).stale
      (rest = [] →
        ∃ t, exec (.trunkTransmitDone p u) s = .next t ∧ t.quiet = (s.setTrunk p { x with tx := none }).quiet
          ∧ t.queue (trunkQueue p) = { s.queue (trunkQueue p) with frames := [], stale })
      ∧ ∀ g more, rest = g :: more → s.staleVoice g = false → ((s.upsets u).trunkCutOff p).fbf.cleanFor g = true →
        ∃ t, exec (.trunkTransmitDone p u) s = .next t ∧ t.quiet = (s.setTrunk p { x with tx := some (.stored g) }).quiet
          ∧ t.queue (trunkQueue p) = { s.queue (trunkQueue p) with frames := more, stale })

/-- The link states stand with their inputs and timers, and ALC's island state with both ports: every step keeps it. -/
def Obligations.TrunkLinksStaySound : Prop :=
  ∀ s t : State, s.trunksSound = true → Sys2Proof.Machine.step s = .next t → t.trunksSound = true


/-! ## Chapter 2: spur lines and drops -/

/-- A drop record whose port has lost its line: R29's values, with the desired mask and the zone kept. -/
def Sys2Proof.Machine.lineLost (kind : Bool) (r : Drop) : Drop :=
  { r with
    present := false, confirmed := 0, out := .noOutput, sent := 0, retry := 0, faultReported := false, mismatched := false
    kind := if kind then .native else r.kind }

/-- A spur port's record once what R29 lays down for leaving ACTIVE has happened to it. -/
def Sys2Proof.Machine.afterActive (x : SpurPort) : SpurPort :=
  if x.state = .active then
    { x with
      poll := { x.poll with state := .idle, due := none, waiting := false, sending := false }
      slots := Vector.replicate 4 none, setsWaiting := [], drops := vmap (lineLost false) x.drops, tx := none }
  else x

/-- The record of a spur port that has entered FAULTED (R30). -/
def Sys2Proof.Machine.faultedPort (s : State) (x : SpurPort) (cause : SpurFault) : SpurPort :=
  { afterActive x with
    state := .faulted, fault := cause, entered := s.time, attachDue := none, granted := 0, describeWaiting := false, tx := none }

/-- What a change of one spur port leaves alone: the other ports but those that wait for power, the trunk ports, the time base, the
classifier, the gas channels, the zones, the broadcast memory, the configuration. -/
def Sys2Proof.Machine.spurFrame (n : Fin 6) (s t : State) : Prop :=
  (∀ m, m ≠ n → (s.spur m).state ≠ .powerDenied → (t.spur m).still = (s.spur m).still)
    ∧ t.tpe = s.tpe ∧ t.tpw = s.tpw ∧ t.time = s.time ∧ t.cls = s.cls ∧ t.channels = s.channels ∧ t.zones = s.zones
    ∧ t.broadcasts = s.broadcasts ∧ t.cfl = s.cfl ∧ t.config = s.config

/-- R26: the half-watts of a power class. -/
def Sys2Proof.Machine.classWatts (k : Nat) : Nat := if k = 1 then 2 else if k = 2 then 5 else if k = 3 then 10 else 0

/-- R27: the ports of a list that a re-examination grants their class, each taken with the half-watts granted by then. -/
def Sys2Proof.Machine.grantedAgain (s : State) (budget : Nat) : Nat → List (Fin 6) → List (Fin 6)
  | _, [] => []
  | sum, m :: rest =>
    match (s.spur m).state, (s.spur m).descriptor with
    | .powerDenied, some k =>
      if sum + classWatts k.power ≤ budget then m :: grantedAgain s budget (sum + classWatts k.power) rest
      else grantedAgain s budget sum rest
    | _, _ => grantedAgain s budget sum rest

/-- R26, R27: a port's record once its descriptor's class has been granted in a re-examination. -/
def Sys2Proof.Machine.poweredAgain (s : State) (m : Fin 6) : SpurPort :=
  match (s.spur m).descriptor with
  | some k => { s.spur m with state := .powered, entered := s.time, granted := k.power, attachDue := some (s.after 2000) }
  | none => s.spur m

/-- R27: spur port `n` has left a state, and `t` is what follows. From POWERED or ACTIVE its class has returned, and the ports in
POWER_DENIED have been taken in ascending number, each granted when its class fits beside those granted by then; from any other state no
port's power changes. -/
def Sys2Proof.Machine.powerReturns (n : Fin 6) (s t : State) : Prop :=
  let sum := ((List.finRange 6).map fun m => if m = n then 0 else classWatts (s.spur m).granted).sum
  let again := grantedAgain s s.mge.table.budget sum ((List.finRange 6).filter (· != n))
  ∀ m, m ≠ n →
    if (s.spur n).state = .powered ∨ (s.spur n).state = .active then
      s.powerSound = true → (t.spur m).still = if m ∈ again then (poweredAgain s m).still else (s.spur m).still
    else (t.spur m).still = (s.spur m).still

/-- From presence toward power: SPUR_PRESENCE_RISE, DETECT_TIMER_EXPIRY, and DESCRIBE_TIMER_EXPIRY while tries remain. And the ways into
FAULTED, a third DESCRIBE unanswered, no READY in time, overcurrent: the port's record, SPUR_CHANGE, SPUR_FAULT on the alarm list, and the
re-examination of the ports in POWER_DENIED when power returns. (What an abandoned poll's record keeps: notes/assumptions/31.md.) -/
def Obligations.SpurAttachmentAdvancesOrFaults : Prop :=
  (∀ (n : Fin 6) (s : State),
      let x := s.spur n
      (x.state = .empty →
        ∃ t, exec (.spurPresenceRise n) s = .next t ∧ t.mge.has .spurChange = true
          ∧ t.quiet = (s.setSpur n { x with
              pres := true, state := .detected, entered := s.time, attachDue := some (s.after 100) }).quiet)
      ∧ (x.state ≠ .empty →
        ∃ t, exec (.spurPresenceRise n) s = .next t ∧ t.quiet = (s.setSpur n { x with pres := true }).quiet)
      ∧ (x.state = .detected → s.expired x.attachDue = true →
        ∃ t, exec (.detectTimerExpiry n) s = .next t ∧ t.mge.has .spurChange = true
          ∧ t.quiet = (s.setSpur n { x with
              state := .interrogating, entered := s.time, tries := 1, describeWaiting := true, attachDue := none }).quiet)
      ∧ (x.state = .interrogating → s.expired x.attachDue = true → x.tries < 3 →
        ∃ t, exec (.describeTimerExpiry n) s = .next t
          ∧ t.quiet = (s.setSpur n { x with tries := x.tries + 1, describeWaiting := true, attachDue := none }).quiet))
  ∧ ∀ (n : Fin 6) (s : State),
      let x := s.spur n
      let faulted (y : SpurPort) (cause : SpurFault) (t : State) : Prop :=
        (t.spur n).still = (faultedPort s y cause).still ∧ t.mge.has .spurChange = true ∧ spurFrame n s t ∧ powerReturns n s t
          ∧ (s.alc.alarms.length < 32 → t.alc.holdsActive .spurFault (n.val + 1) = true)
      (x.state = .interrogating → s.expired x.attachDue = true → 3 ≤ x.tries →
        ∃ t, exec (.describeTimerExpiry n) s = .next t ∧ faulted x .noDescriptor t)
      ∧ (x.state = .powered → s.expired x.attachDue = true →
        ∃ t, exec (.readyTimerExpiry n) s = .next t ∧ faulted x .noReady t)
      ∧ (x.state = .powered ∨ x.state = .active →
        ∃ t, exec (.spurOvercurrent n true) s = .next t ∧ faulted { x with ocLow := true } .overcurrent t)
      ∧ (∀ low, low = false ∨ (x.state ≠ .powered ∧ x.state ≠ .active) →
        ∃ t, exec (.spurOvercurrent n low) s = .next t ∧ t.quiet = (s.setSpur n { x with ocLow := low }).quiet)

/-- SPUR_PRESENCE_FALL: to EMPTY from whatever state, with the descriptor, the tries and the drop records cleared, and SPUR_CHANGE
raised. SPUR_RESET, which raises it too: the port
named takes its SPUR_RESET values and goes on at once to DETECTED while its presence is high; a number outside 1 to 6 is refused. A port
that leaves FAULTED by either ends its SPUR_FAULT condition, and one that leaves POWERED or ACTIVE starts a re-examination. (What the
poll's record keeps at a fall, and its values at a reset: notes/assumptions/31.md. The refusal's detail: notes/assumptions/24.md.) -/
def Obligations.SpurPortsEmpty : Prop :=
  (∀ (n : Fin 6) (s : State),
      let x := s.spur n
      (x.state = .empty →
        ∃ t, exec (.spurPresenceFall n) s = .next t ∧ t.quiet = (s.setSpur n { x with pres := false }).quiet)
      ∧ (x.state ≠ .empty →
        ∃ t, exec (.spurPresenceFall n) s = .next t ∧ t.mge.has .spurChange = true ∧ spurFrame n s t ∧ powerReturns n s t
          ∧ (t.spur n).still = ({ afterActive { x with pres := false } with
              state := .empty, entered := s.time, attachDue := none, descriptor := none, tries := 0, granted := 0
              describeWaiting := false, tx := none, drops := vmap (lineLost true) x.drops } : SpurPort).still
          ∧ (x.state = .faulted → s.alarmsSound = true → t.alc.holdsActive .spurFault (n.val + 1) = false)))
  ∧ ∀ (u : Upsets) (f : Stored) (d : Frame) (s : State), s.commands u f d (.spurReset []) 1 = true →
      (∀ n : Fin 6, arg (commandArgs d.payload) 1 = n.val + 1 →
        Answers (exec (.spurReset u) s) d okStatus [] fun t =>
          let x := s.spur n
          t.mge.has .spurChange = true ∧ spurFrame n s t ∧ powerReturns n s t
            ∧ (t.spur n).still = ({ SpurPort.powerOn with
                pres := x.pres, attn := x.attn, ocLow := x.ocLow, confirmMs := x.confirmMs, retryLimit := x.retryLimit
                entered := s.time, state := if x.pres then .detected else .empty
                attachDue := if x.pres then some (s.after 100) else none
                drops := vmap (fun r => { Drop.powerOn with zone := r.zone }) x.drops } : SpurPort).still
            ∧ (x.state = .faulted → s.alarmsSound = true → t.alc.holdsActive .spurFault (n.val + 1) = false))
      ∧ (arg (commandArgs d.payload) 1 = 0 ∨ 6 < arg (commandArgs d.payload) 1 →
        Answers (exec (.spurReset u) s) d ⟨.badIndex, 0⟩ [] fun t => t.quiet = s.quiet)

/-- R29, whatever command is the cause: what goes with a spur port's leaving ACTIVE. -/
def Obligations.LeavingActiveClearsLine : Prop :=
  ∀ (c : Instr) (n : Fin 6) (s t : State), (∀ k, c ≠ .powerOn k) → exec c s = .next t →
    (s.spur n).state = .active → (t.spur n).state ≠ .active →
      (t.spur n).poll.state = .idle ∧ (t.spur n).slots = Vector.replicate 4 none ∧ (t.spur n).granted = 0
        ∧ (t.spur n).tx = none ∧ (t.queue (spurQueue n)).frames = []
        ∧ (∀ x ∈ t.csw.circuits, x.sideA ≠ .spur n ∧ x.sideB ≠ .spur n)
        ∧ ∀ d : Fin 16, (t.spur n).drops[d].present = false ∧ (t.spur n).drops[d].confirmed = 0
            ∧ (t.spur n).drops[d].out = .noOutput ∧ (t.spur n).drops[d].faultReported = false

/-- R31: bytes that fail an arrival check of a spur port. They are the checks of R12, but that a destination node of 0 is allowed, that
class LINE is allowed and its destination not tested, and that a HELLO fails (so that class IDENT fails whatever its subtype). -/
def Sys2Proof.Machine.malformedOnSpur (bytes : List Byte) : Bool :=
  !crcGood bytes || 8 ≤ byteAt bytes 0 / 16 || byteAt bytes 0 / 16 == 0
    || 240 < byteAt bytes 7 || bytes.length != 12 + byteAt bytes 7
    || (byteAt bytes 0 / 16 != 7 && 64 ≤ byteAt bytes 2)

/-- R31: what a spur port reads in the body of a native frame. -/
def Sys2Proof.Machine.readOnSpur (body : List Byte) : Prop :=
  (malformedOnSpur body = true → spurCheck body = none)
    ∧ (malformedOnSpur body = false → ∃ d, spurCheck body = some d ∧ carries body d)

/-- R187: the kind code that a DESCRIPTOR gives for a drop, at bits 2d + 1 and 2d. -/
def Sys2Proof.Machine.kindCode (payload : List Byte) (e : Fin 16) : Nat :=
  (halfAt payload 3 * 65536 + halfAt payload 5) / 4 ^ e.val % 4

/-- R26, R187: a DESCRIPTOR is valid when it has its 7 bytes, its power class is 1 to 3, and no drop of its map has a kind of 3; it then
gives the class, the map and the kinds of the drops in the map. -/
def Sys2Proof.Machine.describedBy (payload : List Byte) : Prop :=
  let inMap (e : Fin 16) : Bool := (halfAt payload 1).testBit e.val
  if 7 ≤ payload.length ∧ 1 ≤ byteAt payload 0 ∧ byteAt payload 0 ≤ 3 ∧ ∀ e, inMap e = true → kindCode payload e ≤ 2 then
    ∃ k, descriptorOf payload = some k ∧ k.power = byteAt payload 0
      ∧ ∀ e : Fin 16, k.map.getLsbD e.val = inMap e ∧ (inMap e = true → k.kinds[e].ctorIdx = kindCode payload e)
  else descriptorOf payload = none

/-- DESCRIPTOR_RECEIVE in INTERROGATING: an invalid one raises POLL_ERROR and is otherwise as if it had not come; a valid one is
stored, and its class is granted when it fits the budget beside the classes of the other ports. A frame from the line head that fails the
checks of R31 raises MALFORMED. (A DESCRIBE that only waits does not go, and one that is in the transmitter is left there to finish: THE
MODEL'S CHOICE, notes/assumptions/14.md.) -/
def Obligations.DescriptorAsksForPower : Prop :=
  (∀ (n : Fin 6) (body : List Byte) (d : Frame) (s : State), (s.spur n).state = .interrogating → (s.spur n).granted = 0 →
    spurCheck body = some d → d.cls = .line → d.subtype = 0 →
    let x := s.spur n
    let bytes := (0x80 : Byte) :: body
    (descriptorOf d.payload = none →
      ∃ t, exec (.descriptorReceive n bytes) s = .next t ∧ t.mge.has .pollError = true ∧ t.quiet = s.quiet)
    ∧ (∀ k, descriptorOf d.payload = some k → s.grantedWatts + halfWatts k.power ≤ s.mge.table.budget →
      ∃ t, exec (.descriptorReceive n bytes) s = .next t ∧ t.mge.has .spurChange = true
        ∧ t.quiet = (s.setSpur n { x with
            state := .powered, entered := s.time, granted := k.power, attachDue := some (s.after 2000)
            describeWaiting := false, descriptor := some k }).quiet)
    ∧ (∀ k, descriptorOf d.payload = some k → s.mge.table.budget < s.grantedWatts + halfWatts k.power →
      ∃ t, exec (.descriptorReceive n bytes) s = .next t ∧ t.mge.has .powerDenied = true ∧ t.mge.has .spurChange = true
        ∧ t.quiet = (s.setSpur n { x with
            state := .powerDenied, entered := s.time, attachDue := none, describeWaiting := false
            descriptor := some k }).quiet))
  ∧ (∀ (n : Fin 6) (body : List Byte) (s : State), (s.spur n).state.hearsHead = true → malformedOnSpur body = true →
      ∃ t, exec (.spurFrameReceive n ((0x80 : Byte) :: body)) s = .next t ∧ t.mge.has .malformed = true ∧ t.quiet = s.quiet)
  ∧ (∀ body : List Byte, readOnSpur body)
  ∧ ∀ payload : List Byte, describedBy payload

/-- R34: the free slots of port `p` have been taken, and `q` is what it has become: the lowest-numbered PENDING drops take them, each
is IN_FLIGHT with a retry count of 0, unless it came to PENDING by a mismatched confirmation, and its OUTPUT_SET waits for the line.
(Which of several free slots a drop takes, and so the order in which the OUTPUT_SETs of one step wait, is THE MODEL'S CHOICE, ascending:
notes/assumptions/37.md.) -/
def Sys2Proof.Machine.fillsSlots (p q : SpurPort) : Prop :=
  let free := (List.finRange 4).filter fun k => p.slots[k] == none
  let waiting := (List.finRange 16).filter fun d => p.reconciled d && p.drops[d].out == .pending
  let taken := free.zip waiting
  q = { p with slots := q.slots, drops := q.drops, setsWaiting := p.setsWaiting ++ taken.map (·.1) }
    ∧ (∀ k : Fin 4, q.slots[k] = match taken.find? (·.1 == k) with
        | some (_, d) => some { drop := d, confirmDue := none, sent := false, sending := false }
        | none => p.slots[k])
    ∧ ∀ d : Fin 16, q.drops[d] = if taken.any (·.2 == d) then
        { p.drops[d] with
          out := .inFlight, retry := if p.drops[d].mismatched then p.drops[d].retry else 0, mismatched := false }
      else p.drops[d]

/-- R29: a drop record as the descriptor sets it on entering ACTIVE, before slots are taken. -/
def Sys2Proof.Machine.enteredDrop (k : Descriptor) (e : Fin 16) (r : Drop) : Drop :=
  let present := k.map.getLsbD e.val
  let kind := if present then k.kinds[e] else .native
  { r with
    present, kind, sent := 0, retry := 0, mismatched := false
    out := if present = false ∨ kind = .foreign then .noOutput else if r.desired = r.confirmed then .settled else .pending }

/-- READY_RECEIVE in POWERED: the port is ACTIVE, SPUR_CHANGE is raised, and each drop record is set from the descriptor; a reconciled
drop is SETTLED when its masks agree, and otherwise PENDING or, with a slot, IN_FLIGHT; no slot is left free while one is PENDING, and the
lowest-numbered PENDING drops take them with a retry count of 0 (R34). -/
def Obligations.ReadyMakesPortActive : Prop :=
  ∀ (n : Fin 6) (body : List Byte) (d : Frame) (k : Descriptor) (s : State), (s.spur n).state = .powered →
    (s.spur n).descriptor = some k → spurCheck body = some d → d.cls = .line → d.subtype = 1 →
    (s.spur n).slots = Vector.replicate 4 none →
    ∃ t, exec (.readyReceive n ((0x80 : Byte) :: body)) s = .next t ∧ t.mge.has .spurChange = true ∧ (t.spur n).state = .active
      ∧ (t.spur n).entered = s.time ∧ (t.spur n).attachDue = none ∧ (t.spur n).granted = (s.spur n).granted
      ∧ (∀ e : Fin 16,
          let r := (t.spur n).drops[e]
          let old := (s.spur n).drops[e]
          let reconciled := k.map.getLsbD e.val = true ∧ k.kinds[e] ≠ .foreign
          r.present = k.map.getLsbD e.val ∧ r.kind = (if k.map.getLsbD e.val then k.kinds[e] else .native)
            ∧ r.desired = old.desired ∧ r.confirmed = old.confirmed ∧ r.zone = old.zone
            ∧ (¬reconciled → r.out = .noOutput)
            ∧ (reconciled → old.desired = old.confirmed → r.out = .settled)
            ∧ (reconciled → old.desired ≠ old.confirmed → r.out = .pending ∨ r.out = .inFlight))
      ∧ ((∃ j : Fin 4, (t.spur n).slots[j] = none) → ∀ e : Fin 16, (t.spur n).drops[e].out ≠ .pending)
      ∧ fillsSlots { s.spur n with
          state := .active, entered := s.time, attachDue := none
          drops := vmapIdx (enteredDrop k) (s.spur n).drops } (t.spur n)
      ∧ { t with spurs := s.spurs }.quiet = s.quiet

/-- SPUR_FRAME_RECEIVE on an ACTIVE port, from a drop that is present: a native frame of another class than LINE, and foreign bytes of
1 to 252, wait for CLS with the drop, its kind and its zone; a frame that fails the checks of R31 raises MALFORMED, and one that FBF
refuses QUEUE_DISCARD. (What the port reads in a native body: DescriptorAsksForPower; FBF's test: TrunkArrivalChecks.) -/
def Obligations.SpurFramesReachClassifier : Prop :=
  ∀ (n : Fin 6) (drop : Fin 16) (body : List Byte) (s : State), (s.spur n).state = .active →
    (s.spur n).drops[drop].present = true →
    let r := (s.spur n).drops[drop]
    let bytes := byte drop.val :: body
    let waits (b : Body) (level : Nat) (t : State) : Prop :=
      t.cls = { s.cls with waiting := s.cls.waiting ++ [{
        port := .spur n, drop, kind := r.kind, zone := r.zone
        frame := { body := b, level, blocks := s.fbf.free.take (blocksFor b.size), origin := .spur, arrival := some (.spur n)
                   ctx := none, target := .allDrops, entry := none } }] }
        ∧ t.fbf.free = s.fbf.free.drop (blocksFor b.size) ∧ t.egs = s.egs ∧ { t with cls := s.cls }.quiet = s.quiet
    let refused : Prop :=
      ∃ t, exec (.spurFrameReceive n bytes) s = .next t ∧ t.mge.has .queueDiscard = true ∧ t.quiet = s.quiet
        ∧ (s.mge.owed = [] → s.mge.table.enables = 0 → t.egs = s.egs ∧ t.fbf = s.fbf)
    (∀ d, r.kind ≠ .foreign → spurCheck body = some d → d.cls ≠ .line → carries body d
      ∧ (s.mge.owed = [] → acceptedByRule s.fbf (.drift d) →
        ∃ t, exec (.spurFrameReceive n bytes) s = .next t ∧ waits (.drift d) d.level t)
      ∧ (¬acceptedByRule s.fbf (.drift d) → refused))
    ∧ (r.kind ≠ .foreign → malformedOnSpur body = false → spurCheck body ≠ none)
    ∧ (r.kind ≠ .foreign → malformedOnSpur body = true →
      ∃ t, exec (.spurFrameReceive n bytes) s = .next t ∧ t.mge.has .malformed = true ∧ t.quiet = s.quiet)
    ∧ (r.kind = .foreign → 1 ≤ body.length → body.length ≤ 252 →
      (s.mge.owed = [] → acceptedByRule s.fbf (.raw body) →
        ∃ t, exec (.spurFrameReceive n bytes) s = .next t ∧ waits (.raw body) 0 t)
      ∧ (¬acceptedByRule s.fbf (.raw body) → refused))
    ∧ (r.kind = .foreign → body.length = 0 ∨ 252 < body.length →
      ∃ t, exec (.spurFrameReceive n bytes) s = .next t ∧ t.mge.has .malformed = true ∧ t.quiet = s.quiet)

/-- An OUTPUT_CONFIRM of a mask, as it arrives from a drop. -/
def Sys2Proof.Machine.confirms (body : List Byte) (mask : BitVec 4) : Prop :=
  ∃ d m rest, spurCheck body = some d ∧ d.cls = .line ∧ d.subtype = 4 ∧ d.payload = m :: rest ∧ BitVec.ofNat 4 m.toNat = mask

/-- The drop record after a comparison of its masks, its retry count 0 once it is SETTLED (R35). -/
def Sys2Proof.Machine.comparedDrop (r : Drop) : Drop :=
  if r.desired = r.confirmed then { r with out := .settled, retry := 0, mismatched := false } else { r with out := .pending }

/-- OUTPUT_CONFIRM_RECEIVE from a reconciled drop with no fault reported: R35's table, as far as the free slots are then taken. A drop that
gives up is UNCONFIRMED and its slot is free (unless the alarm it raises rewrites its desired mask, R37). With
fault reported, a late confirmation clears the flag and the OUTPUT_UNCONFIRMED condition. The free slots are taken as R34 says. (The
order among the slots taken in one step: notes/assumptions/37.md. No clause rests on the retry count that a drop keeps when it gives up, THE
MODEL'S CHOICE of notes/assumptions/45.md.) -/
def Obligations.ConfirmationSettlesDrop : Prop :=
  (∀ (n : Fin 6) (d : Fin 16) (mask : BitVec 4) (body : List Byte) (s : State), confirms body mask →
      (s.spur n).reconciled d = true → (s.spur n).drops[d].faultReported = false →
      let p := s.spur n
      let r := { p.drops[d] with confirmed := mask }
      let becomes (q : SpurPort) : Prop :=
        ∃ t, exec (.outputConfirmReceive n (byte d.val :: body)) s = .next t ∧ t.quiet = (s.setSpur n q.takeSlots).quiet
      (r.out = .settled ∨ r.out = .pending ∨ r.out = .unconfirmed → becomes (p.setDrop d (comparedDrop r)))
      ∧ (r.out = .inFlight → p.sentSlot d = none → becomes (p.setDrop d r))
      ∧ (∀ k, r.out = .inFlight → p.sentSlot d = some k → mask = r.sent →
        becomes ((p.freeSlot k).setDrop d (comparedDrop { r with mismatched := false })))
      ∧ (∀ k, r.out = .inFlight → p.sentSlot d = some k → mask ≠ r.sent → r.retry + 1 ≤ p.retryLimit →
        becomes ((p.freeSlot k).setDrop d { r with retry := r.retry + 1, out := .pending, mismatched := true }))
      ∧ (∀ k, r.out = .inFlight → p.sentSlot d = some k → mask ≠ r.sent → p.retryLimit < r.retry + 1 →
        ∃ t, exec (.outputConfirmReceive n (byte d.val :: body)) s = .next t ∧ (t.spur n).drops[d].faultReported = true
          ∧ (t.spur n).drops[d].confirmed = mask
          ∧ (s.alc.alarms.length < 32 → t.alc.holdsActive .outputUnconfirmed (256 + 16 * n.val + d.val) = true)
          ∧ (s.outputsSound = true → (∀ (j : Fin 4) (y : Slot), j ≠ k → p.slots[j] = some y → y.drop ≠ d) →
              (t.spur n).drops[d].desired = r.desired →
                (t.spur n).drops[d].out = .unconfirmed ∧ ∀ (j : Fin 4) (y : Slot), (t.spur n).slots[j] = some y → y.drop ≠ d)
          ∧ t.still = (s.setSpur n (p.setDrop d { r with faultReported := true })).still))
  ∧ (∀ (n : Fin 6) (d : Fin 16) (mask : BitVec 4) (body : List Byte) (s : State), confirms body mask →
      (s.spur n).reconciled d = true → (s.spur n).drops[d].out ≠ .inFlight → s.alarmsSound = true →
      ∃ t, exec (.outputConfirmReceive n (byte d.val :: body)) s = .next t ∧ (t.spur n).drops[d].faultReported = false
        ∧ (t.spur n).drops[d].confirmed = mask
        ∧ ((s.spur n).drops[d].faultReported = true →
            t.alc.holdsActive .outputUnconfirmed (256 + 16 * n.val + d.val) = false))
  ∧ ∀ p : SpurPort, fillsSlots p p.takeSlots

/-- CONFIRM_TIMER_EXPIRY: a resend while the count is below the limit; at the limit the slot is freed, the drop is UNCONFIRMED, and the
condition is raised unless it is reported already. (The raise may rewrite the drop's desired mask, and the drop is then PENDING again by
R37 or, with a free slot, IN_FLIGHT.) -/
def Obligations.ConfirmTimerResendsOrGivesUp : Prop :=
  ∀ (n : Fin 6) (k : Fin 4) (x : Slot) (s : State), (s.spur n).slots[k] = some x → s.expired x.confirmDue = true →
    let p := s.spur n
    let r := p.drops[x.drop]
    (r.retry < p.retryLimit →
      ∃ t, exec (.confirmTimerExpiry n k) s = .next t
        ∧ t.quiet = (s.setSpur n { (p.setDrop x.drop { r with retry := r.retry + 1 }).setSlot k
            (some { x with confirmDue := none }) with setsWaiting := p.setsWaiting ++ [k] }).quiet)
    ∧ (p.retryLimit ≤ r.retry → r.faultReported = true →
      ∃ t, exec (.confirmTimerExpiry n k) s = .next t
        ∧ t.quiet = (s.setSpur n ((p.freeSlot k).setDrop x.drop
            { r with out := .unconfirmed, mismatched := false }).takeSlots).quiet)
    ∧ (p.retryLimit ≤ r.retry → r.faultReported = false →
      ∃ t, exec (.confirmTimerExpiry n k) s = .next t ∧ (t.spur n).drops[x.drop].faultReported = true
        ∧ (s.alc.alarms.length < 32 → t.alc.holdsActive .outputUnconfirmed (256 + 16 * n.val + x.drop.val) = true)
        ∧ (s.outputsSound = true → (∀ (j : Fin 4) (y : Slot), j ≠ k → p.slots[j] = some y → y.drop ≠ x.drop) →
            (t.spur n).drops[x.drop].desired = r.desired →
              (t.spur n).drops[x.drop].out = .unconfirmed ∧ ∀ (j : Fin 4) (y : Slot), (t.spur n).slots[j] = some y → y.drop ≠ x.drop)
        ∧ t.still = (s.setSpur n (p.setDrop x.drop { r with faultReported := true })).still)

/-- The poll waits for the line with a query of its grade. -/
def Sys2Proof.Machine.querying (p : Poll) : Poll := { p with state := .query, waiting := true, sending := false, due := none }

/-- A bad summary, or none in time: the same query once more, and at the second time the end with POLL_ERROR and a hold-off of 1000
ms. -/
def Sys2Proof.Machine.badAnswer (s : State) (n : Fin 6) (t : State) : Prop :=
  let p := (s.spur n).poll
  if p.again then
    t.mge.has .pollError = true ∧ t.quiet = (s.setPoll n { p with
      state := .idle, due := none, waiting := false, sending := false, holdOff := some (s.after 1000) }).quiet
  else t.quiet = (s.setPoll n (querying { p with again := true })).quiet

/-- POLL_START, ATTN_SUMMARY_RECEIVE and QUERY_TIMER_EXPIRY: the attention poll's steps (R38). REPORT_TIMER_EXPIRY and
LINE_REPORT_RECEIVE: after a silence the drop is in the SILENT set and POLL_ERROR is raised; after a report of the current drop ALC has
it, or POLL_ERROR is raised for an unknown type and for a report of fewer than 3 bytes (R187); in each case the same grade is queried
again. A report of another drop, or outside REQUEST, is discarded without an event. (That a query which still waits when the poll ends is
withdrawn is THE MODEL'S CHOICE: notes/assumptions/44.md.) -/
def Obligations.AttentionPollRuns : Prop :=
  (∀ (n : Fin 6) (s : State),
      let x := s.spur n
      let p := x.poll
      (∀ attn, (x.state = .active ∧ attn = true ∧ p.state = .idle ∧ (p.holdOff.all fun t => s.reached t) = true →
          ∃ t, exec (.pollStart n attn) s = .next t
            ∧ t.quiet = (s.setSpur n { x with
                attn, poll := querying { p with silent := 0, grade := .urgent, again := false, holdOff := none } }).quiet)
        ∧ (¬(x.state = .active ∧ attn = true ∧ p.state = .idle ∧ (p.holdOff.all fun t => s.reached t) = true) →
          ∃ t, exec (.pollStart n attn) s = .next t ∧ t.quiet = (s.setSpur n { x with attn }).quiet))
      ∧ (∀ body d, spurCheck body = some d → d.cls = .line → d.subtype = 2 → x.state = .active → p.state = .query →
          let low := halfAt d.payload 2
          let good := 4 ≤ d.payload.length ∧ halfAt d.payload 0 + low = 65535
          let wanted (e : Fin 16) : Bool :=
            low.testBit e.val && x.drops[e].present && x.drops[e].kind == .attention && !p.silent.getLsbD e.val
          ∃ t, exec (.attnSummaryReceive n ((0x80 : Byte) :: body)) s = .next t
            ∧ (¬good → badAnswer s n t)
            ∧ (∀ e, good → wanted e = true → (∀ j, j < e → wanted j = false) →
                t.quiet = (s.setPoll n { p with
                  state := .request, current := e, waiting := true, sending := false, due := none, again := false }).quiet)
            ∧ (good → (∀ e, wanted e = false) → p.grade = .urgent →
                t.quiet = (s.setPoll n (querying { p with grade := .routine, again := false })).quiet)
            ∧ (good → (∀ e, wanted e = false) → p.grade = .routine →
                t.quiet = (s.setPoll n { p with
                  state := .idle, due := none, waiting := false, sending := false, again := false }).quiet))
      ∧ (p.state = .query → s.expired p.due = true →
          ∃ t, exec (.queryTimerExpiry n) s = .next t ∧ badAnswer s n t))
  ∧ ∀ (n : Fin 6) (s : State),
      let x := s.spur n
      let p := x.poll
      let e := p.current
      let source := (s.station? n e).getD (256 + 16 * n.val + e.val)
      (p.state = .request → s.expired p.due = true →
        ∃ t, exec (.reportTimerExpiry n) s = .next t ∧ t.mge.has .pollError = true
          ∧ t.quiet = (s.setPoll n (querying { p with
              silent := p.silent ||| BitVec.ofNat 16 (2 ^ e.val), again := false })).quiet)
      ∧ (∀ body d, spurCheck body = some d → d.cls = .line → d.subtype = 3 → x.state = .active → x.drops[e].present = true →
          x.drops[e].kind ≠ .foreign → p.state = .request → 3 ≤ d.payload.length → s.alc.alarms.length < 32 →
          s.alarmsSound = true →
          let kind := byteAt d.payload 0
          let value := halfAt d.payload 1
          let refuge : Nat → AlarmKind := fun k =>
            if k = 0 then .refugePanic else if k = 1 then .refugeDoor else if k = 2 then .refugeOccupied else .refugeAir
          ∃ t, exec (.lineReportReceive n (byte e.val :: body)) s = .next t
            ∧ t.still = (s.setPoll n (querying { p with again := false })).still
            ∧ (kind ≤ 1 ∨ (kind = 2 ∧ 0 < value) ∨ (kind = 3 ∧ value < s.mge.table.airFloor) →
                t.alc.holdsActive (refuge kind) source = true)
            ∧ ((kind = 2 ∧ value = 0) ∨ (kind = 3 ∧ s.mge.table.airFloor ≤ value) →
                t.alc.holdsActive (refuge kind) source = false)
            ∧ (kind = 4 → value ≤ 3 → t.alc.holdsActive (refuge value) source = false)
            ∧ (4 < kind ∨ (kind = 4 ∧ 3 < value) → t.mge.has .pollError = true
                ∧ t.quiet = (s.setPoll n (querying { p with again := false })).quiet))
      ∧ ∀ (a : Fin 16) body d, spurCheck body = some d → d.cls = .line → d.subtype = 3 → x.state = .active →
          x.drops[a].present = true → x.drops[a].kind ≠ .foreign →
            ∃ t, exec (.lineReportReceive n (byte a.val :: body)) s = .next t
              ∧ (p.state = .request → a = e → d.payload.length < 3 → t.mge.has .pollError = true
                  ∧ t.quiet = (s.setPoll n (querying { p with again := false })).quiet)
              ∧ (p.state ≠ .request ∨ a ≠ e → t = s.settle)

/-- A spur port's record once the frame in its transmitter has left: the answer timer it starts (R25, R34, R38, R39). -/
def Sys2Proof.Machine.frameLeft (s : State) (x : SpurPort) : SpurPort :=
  match x.tx with
  | none => x
  | some .describe => { x with tx := none, attachDue := if x.state = .interrogating then some (s.after 500) else x.attachDue }
  | some (.attnQuery _) =>
    { x with tx := none, poll := if x.poll.sending then { x.poll with sending := false, due := some (s.after 50) } else x.poll }
  | some (.reportRequest _ _) =>
    { x with tx := none, poll := if x.poll.sending then { x.poll with sending := false, due := some (s.after 100) } else x.poll }
  | some (.outputSet k _ _) =>
    { x with tx := none, slots := match x.slots[k] with
        | some y => if y.sending then
            x.slots.set k (some { y with sending := false, sent := true, confirmDue := some (s.after x.confirmMs) })
          else x.slots
        | none => x.slots }
  | some (.stored _) => { x with tx := none }

/-- SPUR_TRANSMIT_DONE: the frame sent starts its answer timer, and the freed transmitter takes the poll's frame first, then the
OUTPUT_SET that has waited longest, built now, then the head of the queue, which has then left it. Stale voice is counted and discarded at
its turn, and the next frame follows. -/
def Obligations.LineArbiterTakesInOrder : Prop :=
  ∀ (n : Fin 6) (u : Upsets) (s : State),
    let y := frameLeft s (s.spur n)
    let q := s.queue (spurQueue n)
    let becomes (z : SpurPort) : Prop :=
      ∃ t, exec (.spurTransmitDone n u) s = .next t ∧ t.quiet = (s.setSpur n z).quiet
    let leaves (z : SpurPort) (x : Queue) : Prop :=
      ∃ t, exec (.spurTransmitDone n u) s = .next t ∧ t.quiet = (s.setSpur n z).quiet
        ∧ (s.mge.owed = [] → s.mge.table.enables = 0 →
            t.queue (spurQueue n) = x ∧ ∀ r, r ≠ spurQueue n → t.queue r = s.queue r)
    (y.state = .interrogating → y.describeWaiting = true →
        becomes { y with describeWaiting := false, tx := some .describe })
    ∧ (y.state = .interrogating → y.describeWaiting = false → becomes y)
    ∧ (y.state ≠ .interrogating → y.state ≠ .active → becomes y)
    ∧ (y.state = .active → y.poll.waiting = true →
        becomes { y with
          poll := { y.poll with waiting := false, sending := true }
          tx := some (if y.poll.state = .request then .reportRequest y.poll.grade y.poll.current
            else .attnQuery y.poll.grade) })
    ∧ (∀ k rest x, y.state = .active → y.poll.waiting = false → y.setsWaiting = k :: rest → y.slots[k] = some x →
        becomes { (y.setDrop x.drop { y.drops[x.drop] with sent := y.drops[x.drop].desired }).setSlot k
            (some { x with sending := true }) with
          setsWaiting := rest, tx := some (.outputSet k x.drop y.drops[x.drop].desired) })
    ∧ (y.state = .active → y.poll.waiting = false → y.setsWaiting = [] → q.frames = [] → leaves y q)
    ∧ (∀ f rest, y.state = .active → y.poll.waiting = false → y.setsWaiting = [] → q.frames = f :: rest → s.staleVoice f = false →
        ((s.upsets u).lineLeft n).fbf.cleanFor f = true → leaves { y with tx := some (.stored f) } { q with frames := rest })
    ∧ ∀ f rest, y.state = .active → y.poll.waiting = false → y.setsWaiting = [] → q.frames = f :: rest → s.staleVoice f = true →
        (rest = [] → leaves y { q with frames := [], stale := countUp q.stale })
        ∧ ∀ g more, rest = g :: more → s.staleVoice g = false → ((s.upsets u).lineLeft n).fbf.cleanFor g = true →
          leaves { y with tx := some (.stored g) } { q with frames := more, stale := countUp q.stale }

/-- The half-watts granted never exceed the budget, and a class is granted only to a port in POWERED or ACTIVE: every step keeps it. -/
def Obligations.PowerStaysWithinBudget : Prop :=
  ∀ s t : State, s.powerSound = true → Sys2Proof.Machine.step s = .next t → t.powerSound = true


/-! ## Chapter 3: classification and reply pages -/

/-- A frame takes its place by R46's table for its destination station: an internal endpoint of its class, the one drop whose
station it is, or NO_ROUTE. (Station 255 has clauses of its own.) -/
def Sys2Proof.Machine.landsAt (s : State) (f : Stored) (d : Frame) (t : State) : Prop :=
  let n := f.blocks.length
  (∀ c, (d.dst.station, c) ∈ [(0, FrameClass.mgmt), (240, .alarm), (241, .air), (242, .haul), (243, .call)] →
      (d.cls = c → s.room localQueue n = true → joined localQueue f s t)
      ∧ (d.cls ≠ c → t.mge.has .noRoute = true))
    ∧ (1 ≤ d.dst.station → d.dst.station ≤ 239 → ∀ k e, s.station? k e = some d.dst.station →
      (∀ j i, s.station? j i = some d.dst.station → j = k) →
        ((s.spur k).state = .active → (s.spur k).drops[e].present = true → s.room (spurQueue k) n = true →
          joined (spurQueue k) { f with target := .drop e, ctx := none } s t)
        ∧ ((s.spur k).state ≠ .active ∨ (s.spur k).drops[e].present = false → t.mge.has .noRoute = true))
    ∧ (1 ≤ d.dst.station → d.dst.station ≤ 239 → (∀ k e, s.station? k e ≠ some d.dst.station) → t.mge.has .noRoute = true)
    ∧ (244 ≤ d.dst.station → d.dst.station ≠ 255 → t.mge.has .noRoute = true)

/-- R47: a frame for station 255 has been copied to the lines: one copy waits on the queue of each ACTIVE spur that has a window, but
for the spur `but` that it arrived on, for all drops; no other spur's queue has changed. -/
def Sys2Proof.Machine.copiedToLines (s : State) (f : Stored) (but : Option (Fin 6)) (t : State) : Prop :=
  ∀ n, if s.active n = true ∧ s.cls.windows[n].base ≠ 0 ∧ but ≠ some n then
    ∃ blocks, t.queue (spurQueue n) = { s.queue (spurQueue n) with
      frames := insertByLevel { f with blocks, target := .allDrops, ctx := none, entry := some (f.entry.getD s.time) }
        (s.queue (spurQueue n)).frames }
  else t.queue (spurQueue n) = s.queue (spurQueue n)

/-- R47, R50: a frame for station 255 that has come by spur `n`, for this node or for node 63, is copied to the other lines and not to its
own; no internal endpoint gets it, and one for this node does not enter the trunk. -/
def Sys2Proof.Machine.copiedFromLine (s : State) (n : Fin 6) (f : Stored) (d : Frame) (t : State) : Prop :=
  d.dst.station = 255 → d.dst.node = s.node ∨ d.dst.node = 63 → f.arrival = some (.spur n) → s.mge.table.enables = 0 →
    (∀ m, s.room (spurQueue m) (max f.blocks.length (blocksFor (12 + d.payload.length))) = true) →
    s.fbf.reserve + 30 ≤ s.fbf.free.length →
      copiedToLines s f (some n) t ∧ t.queue localQueue = s.queue localQueue
        ∧ (d.dst.node = s.node →
          t.queue (trunkQueue .east) = s.queue (trunkQueue .east) ∧ t.queue (trunkQueue .west) = s.queue (trunkQueue .west))

/-- A frame enters the trunk by R20: the direction table's port when it is UP, the other one when only that is. -/
def Sys2Proof.Machine.entersTrunk (s : State) (f : Stored) (d : Frame) (t : State) : Prop :=
  ∀ i : Fin 64, i.val = d.dst.node →
    let first := s.cls.direction[i]
    let p := if s.up first then first else first.other
    s.up p = true → s.room (trunkQueue p) f.blocks.length = true →
      joined (trunkQueue p) { f with body := .drift { d with hop := 127, wrapped := false }, ctx := none } s t

/-- R50, R72: a frame from a spur for node 63, `pool` being the free pool as it is offered. Its trunk copy, when the queue takes it, keeps
the blocks, and the local copy lands in blocks of its own or is refused with QUEUE_DISCARD; where neither trunk port is UP (NO_ROUTE) or the
queue is full (QUEUE_DISCARD), the local copy keeps them. (When the local copy is offered: notes/assumptions/17.md.) -/
def Sys2Proof.Machine.sentToAll (s : State) (pool : List Nat) (f : Stored) (d : Frame) (t : State) : Prop :=
  let n := blocksFor (12 + d.payload.length)
  let accepted := ({ s.fbf with free := pool } : Buffer).admits d.cls n = true
  match s.entryPort 63 with
  | none => t.mge.has .noRoute = true ∧ (s.mge.table.enables = 0 → landsAt s f d t)
  | some p =>
    let x := s.queue (trunkQueue p)
    let s' := s.setQueue (trunkQueue p) { x with
      frames := insertByLevel { f with
        body := .drift { d with hop := 127, wrapped := false }, ctx := none, entry := some (f.entry.getD s.time) } x.frames }
    let served := (d.dst.station, d.cls) ∈ [(0, FrameClass.mgmt), (240, .alarm), (241, .air), (242, .haul), (243, .call)]
      ∨ ∃ k e, s.station? k e = some d.dst.station
    (s.room (trunkQueue p) f.blocks.length = true →
        (s.mge.table.enables = 0 → t.queue (trunkQueue p) = s'.queue (trunkQueue p))
        ∧ (accepted → landsAt s' { f with blocks := pool.take n } d t)
        ∧ (¬accepted → served → t.mge.has .queueDiscard = true
            ∧ (s.mge.table.enables = 0 → ∀ q, q ≠ trunkQueue p → t.queue q = s.queue q)))
      ∧ (s.mge.table.enables = 0 →
        s.mge.table.queueLimits[trunkQueue p] < occupancy (x.frames.filter (f.level ≤ ·.level)) + f.blocks.length →
          t.mge.has .queueDiscard = true
            ∧ landsAt (s.setQueue (trunkQueue p) { x with refusals := countUp x.refusals }) f d t)

/-- R50: a frame from spur `n`, stamped or made, is sent on by its destination node; `pool` is the free pool at that moment. -/
def Sys2Proof.Machine.sentOn (n : Fin 6) (s : State) (pool : List Nat) (f : Stored) (d : Frame) (t : State) : Prop :=
  (d.dst.node = s.node → landsAt s f d t)
    ∧ (1 ≤ d.dst.node → d.dst.node ≤ 62 → d.dst.node ≠ s.node → entersTrunk s f d t)
    ∧ (d.dst.node ≠ s.node → s.islandFlag = true → t.mge.has .noRoute = true)
    ∧ (d.dst.node = 63 → s.node ≠ 63 → sentToAll s pool f d t)
    ∧ copiedFromLine s n f d t

/-- R56, R57, R72: a drift frame made from foreign bytes keeps their blocks, is given one more from the pool where it needs it, and is
sent on; where that one is refused, it is discarded with QUEUE_DISCARD. -/
def Sys2Proof.Machine.madeAndSentOn (n : Fin 6) (s : State) (pool : List Nat) (f : Stored) (d : Frame) (t : State) : Prop :=
  let grows := f.blocks.length < blocksFor (12 + d.payload.length)
  (¬grows → sentOn n s pool f d t)
    ∧ (grows → ({ s.fbf with free := pool } : Buffer).admits d.cls 1 = true →
        sentOn n s (pool.drop 1) { f with blocks := f.blocks ++ pool.take 1 } d t)
    ∧ (grows → ({ s.fbf with free := pool } : Buffer).admits d.cls 1 = false →
        t.mge.has .queueDiscard = true ∧ (s.mge.table.enables = 0 → t.egs = s.egs))

/-- CLS takes a waiting frame, which reads without error; the address windows are as R45 lets a WRITE set them. -/
def Sys2Proof.Machine.State.classifies (s : State) (u : Upsets) (p : PortId) (w : Waiting) : Prop :=
  s.cls.waiting.find? (·.port == p) = some w ∧ (s.upsets u).fbf.cleanFor w.frame = true ∧ w.frame.blocks ≠ []
    ∧ s.mge.owed = [] ∧ s.windowsSound = true

/-- Apart from the traffic, CLASSIFY_FRAME takes the frame off CLS's list and changes nothing. -/
def Sys2Proof.Machine.classified (s : State) (w : Waiting) (t : State) : Prop :=
  t.quiet = (s.setCls { s.cls with waiting := s.cls.waiting.erase w }).quiet

/-- CLASSIFY_FRAME on a native frame from a drop: without a station it is discarded; with one it is stamped with the node's number
and the station, raised to its class floor, given the drop's zone, and sent on by its destination node with its reply context: to a
station of this node, by the trunk, or, for node 63, both. One for station 255 of this node, or of node 63, is copied to the other lines
and not to its own (R47). (When a local copy is offered: notes/assumptions/17.md; which of the copies to the lines keeps the blocks:
notes/assumptions/16.md.) -/
def Obligations.NativeFramesAreStampedAndSent : Prop :=
  ∀ (n : Fin 6) (u : Upsets) (w : Waiting) (d : Frame) (s : State), s.classifies u (.spur n) w → w.frame.body = .drift d →
    (s.station? n w.drop = none →
      ∃ t, exec (.classifyFrame (.spur n) u) s = .next t ∧ classified s w t ∧ t.mge.has .noRoute = true)
    ∧ ∀ station, s.station? n w.drop = some station →
      let set := match s.cls.live with
        | .a => s.cls.setA
        | .b => s.cls.setB
      let d' : Frame := { d with
        src := ⟨s.node, station⟩
        dst := if d.dst.node = 0 then ⟨s.node, d.dst.station⟩ else d.dst
        level := max d.level set.floors[d.cls.ctorIdx]!
        zone := if d.zone = 0 then w.zone else d.zone }
      let f : Stored := { w.frame with
        body := .drift d', level := d'.level, ctx := some ⟨n, w.drop, d.tag, none, .noReply⟩ }
      ∃ t, exec (.classifyFrame (.spur n) u) s = .next t ∧ classified s w t ∧ sentOn n s s.fbf.free f d' t

/-- CLASSIFY_FRAME on a frame from the trunk: it goes as it arrived, by R46's table; for station 255 one copy goes to each ACTIVE spur
that has a window. (Which copy keeps the blocks, and when the others are offered: notes/assumptions/16.md.) -/
def Obligations.FramesFromTrunkAreDelivered : Prop :=
  ∀ (p : TPort) (u : Upsets) (w : Waiting) (d : Frame) (s : State), s.classifies u (.trunk p) w → w.frame.body = .drift d →
    w.frame.arrival = some (.trunk p) →
    ∃ t, exec (.classifyFrame (.trunk p) u) s = .next t ∧ classified s w t
      ∧ (d.dst.station ≠ 255 → landsAt s w.frame d t)
      ∧ (d.dst.station = 255 → s.mge.table.enables = 0 →
          t.queue (trunkQueue .east) = s.queue (trunkQueue .east) ∧ t.queue (trunkQueue .west) = s.queue (trunkQueue .west)
            ∧ t.queue localQueue = s.queue localQueue
            ∧ ((∀ n, s.room (spurQueue n) (max w.frame.blocks.length (blocksFor (12 + d.payload.length))) = true) →
              s.fbf.reserve + 12 ≤ s.fbf.free.length → copiedToLines s w.frame none t))

/-- R53: filters `i` to `j` of a set are a chain that is tried for a spur. -/
def Sys2Proof.Machine.chainTriedFor (r : RuleSet) (n : Fin 6) (i j : Fin 8) : Prop :=
  i ≤ j ∧ (∀ k : Fin 8, k.val + 1 = i.val → r.filters[k].cascade = false)
    ∧ (∀ k : Fin 8, i ≤ k → k < j → r.filters[k].cascade = true) ∧ (r.filters[j].cascade = false ∨ j.val = 7)
    ∧ r.filters[i].enabled = true ∧ r.filters[i].spurs.getLsbD n.val = true

/-- R54: a chain from filter `i` to filter `j` selects the frame byte at a position: by the mask of the filter in whose window it lies. -/
def Sys2Proof.Machine.chainSelects (r : RuleSet) (i j : Fin 8) (position : Nat) : Bool :=
  (List.finRange 8).any fun k =>
    let window := 4 * r.filters[i].offset + 32 * (k.val - i.val)
    decide (i ≤ k ∧ k ≤ j ∧ window ≤ position ∧ position < window + 32) && r.filters[k].mask.getLsbD (position - window)

/-- R55: the number that an extraction field takes from a frame, its most significant byte first. -/
def Sys2Proof.Machine.Extract.number (e : Extract) (start : Nat) (bytes : List Byte) : Nat :=
  ((bytes.drop (start + e.offset)).take (min 2 e.width)).foldl (fun v b => 256 * v + b.toNat) 0

/-- R54, R55: a chain matches: a byte is selected, the frame holds the last one, the CRC and that byte are the last filter's, and its
extraction fields lie within the frame. -/
def Sys2Proof.Machine.chainHits (r : RuleSet) (i j : Fin 8) (bytes : List Byte) : Prop :=
  let last := r.filters[j]
  let start := 4 * r.filters[i].offset
  let positions := (List.range (start + 256)).filter (chainSelects r i j)
  positions ≠ [] ∧ (∀ p ∈ positions, p < bytes.length) ∧ crc16 (positions.map fun p => bytes.getD p 0) = last.crc
    ∧ positions.getLast?.map (fun p => (bytes.getD p 0).toNat) = some last.last
    ∧ ∀ e ∈ [last.tag, last.value1, last.value2], e.width = 0 ∨ start + e.offset + min 2 e.width ≤ bytes.length

/-- R53 to R55: the first chain that is tried and matches gives the result, its last filter with the three numbers; where none matches
there is none. -/
def Sys2Proof.Machine.classifiedAsRuled (r : RuleSet) (n : Fin 6) (bytes : List Byte) : Prop :=
  (∀ i j : Fin 8, chainTriedFor r n i j → chainHits r i j bytes →
      (∀ i' j' : Fin 8, i' < i → chainTriedFor r n i' j' → ¬chainHits r i' j' bytes) →
      let x := r.filters[j]
      let start := 4 * r.filters[i].offset
      r.classify n bytes = some ⟨x, x.tag.number start bytes, x.value1.number start bytes, x.value2.number start bytes⟩)
    ∧ ((∀ i j : Fin 8, chainTriedFor r n i j → ¬chainHits r i j bytes) → r.classify n bytes = none)

/-- CLASSIFY_FRAME on foreign bytes. The live set's chains are tried as R53 to R55 say. A match becomes a drift frame of the filter's
class, subtype, level and destination, with the numbers taken from the frame in its tag and payload; no match, with a default destination,
a BULK frame; neither, FILTER_UNMATCHED. An ECHO filter's page is built at once and goes to the drop that was heard, or is discarded with
NO_ROUTE or QUEUE_DISCARD, and the drift frame goes on beside it. Bytes from a drop without a station are discarded with NO_ROUTE (R48). -/
def Obligations.ForeignFramesMatchOrDefault : Prop :=
  (∀ (n : Fin 6) (u : Upsets) (w : Waiting) (bytes : List Byte) (s : State), s.classifies u (.spur n) w →
    w.frame.body = .raw bytes → s.station? n w.drop = none →
      ∃ t, exec (.classifyFrame (.spur n) u) s = .next t ∧ classified s w t ∧ t.mge.has .noRoute = true
        ∧ (s.mge.table.enables = 0 → t.egs = s.egs))
  ∧ ∀ (n : Fin 6) (u : Upsets) (w : Waiting) (bytes : List Byte) (station : Nat) (s : State), s.classifies u (.spur n) w →
    w.frame.body = .raw bytes → s.station? n w.drop = some station →
    let set := s.cls.liveSet
    let here (a : Addr) : Addr := if a.node = 0 then ⟨s.node, a.station⟩ else a
    let goesOn (x : State) (pool : List Nat) (d : Frame) (ctx : ReplyCtx) (t : State) : Prop :=
      madeAndSentOn n x pool { w.frame with body := .drift d, level := d.level, ctx := some ctx } d t
    ∃ t, exec (.classifyFrame (.spur n) u) s = .next t ∧ classified s w t ∧ classifiedAsRuled set n bytes
      ∧ (∀ m, set.classify n bytes = some m →
          let x := m.filter
          let words := (if x.value1.width = 0 then [] else bytes16 m.value1)
            ++ (if x.value2.width = 0 then [] else bytes16 m.value2)
          let d : Frame := {
            cls := x.cls, subtype := x.subtype, level := x.level, hop := 127, wrapped := false, dst := here x.dst
            src := ⟨s.node, station⟩, zone := w.zone, tag := m.tag, payload := (words ++ bytes).take 240 }
          let ctx : ReplyCtx := ⟨n, w.drop, m.tag, x.page, x.reply⟩
          (x.reply ≠ .echo ∨ x.page = none → goesOn s s.fbf.free d ctx t)
          ∧ ∀ k, x.reply = .echo → x.page = some k →
              let body : Body := .raw (s.cls.pages[k].build fun kind =>
                if kind ≤ 5 then 0 else if kind = 6 then s.time.toNat / 1000 else m.tag)
              let size := blocksFor body.size
              let there := s.active n = true ∧ (s.spur n).drops[w.drop].present = true
              let echo : Stored := {
                body, level := x.level, blocks := s.fbf.free.take size, origin := .spur, arrival := none, ctx := none
                target := .drop w.drop, entry := some s.time }
              let line := s.queue (spurQueue n)
              (s.cls.pages[k].used = 0 → goesOn s s.fbf.free d ctx t)
              ∧ (0 < s.cls.pages[k].used → ¬acceptedByRule s.fbf body → t.mge.has .queueDiscard = true
                  ∧ (s.mge.table.enables = 0 → goesOn s s.fbf.free d ctx t))
              ∧ (0 < s.cls.pages[k].used → acceptedByRule s.fbf body → ¬there → t.mge.has .noRoute = true
                  ∧ (s.mge.table.enables = 0 → s.poolSound = true → s.banksSound = true →
                      goesOn s (s.fbf.free.drop size ++ s.fbf.free.take size) d ctx t))
              ∧ (0 < s.cls.pages[k].used → acceptedByRule s.fbf body → there → s.room (spurQueue n) size = true →
                  goesOn (s.setQueue (spurQueue n) { line with frames := insertByLevel echo line.frames }) (s.fbf.free.drop size) d ctx t
                  ∧ (s.mge.table.enables = 0 → s.room (spurQueue n) (w.frame.blocks.length + 3) = true →
                      echo ∈ (t.queue (spurQueue n)).frames)))
      ∧ (set.classify n bytes = none → set.defaults[n].present = true →
          let d : Frame := {
            cls := .bulk, subtype := 0, level := 1, hop := 127, wrapped := false, dst := here set.defaults[n].addr
            src := ⟨s.node, station⟩, zone := w.zone, tag := 0, payload := bytes.take 240 }
          goesOn s s.fbf.free d ⟨n, w.drop, 0, none, .noReply⟩ t)
      ∧ (set.classify n bytes = none → set.defaults[n].present = false →
          t.mge.has .filterUnmatched = true)

/-- EXCHANGE_RULESET: the sets change places, the generation counts on, RULESET_EXCHANGED is raised, and the reply carries the set now
live and the new generation. It is not refused in any state; the sets and the reply pages stay as they are. -/
def Obligations.ExchangeRulesetSwapsSets : Prop :=
  ∀ (u : Upsets) (f : Stored) (d : Frame) (s : State), s.asks u f d (.exchangeRuleset []) = true →
    s.cls.generation ≤ 255 →
    let generation := if s.cls.generation = 255 then 0 else s.cls.generation + 1
    let live : SetName := if s.cls.live = .a then .b else .a
    Answers (exec (.exchangeRuleset u) s) d okStatus [if live = .a then 0 else 1, generation] fun t =>
      t.mge.has .rulesetExchanged = true
        ∧ t.cls.liveSet = (if s.cls.live = .a then s.cls.setB else s.cls.setA)
        ∧ t.quiet = (s.setCls { s.cls with live, generation }).quiet

/-- R65's closing sentence: a reply built from an accepted page with a checksum sums to 0xFFFF over its used length, whatever the
values patched in. -/
def Obligations.ReplySumsToAllOnes : Prop :=
  ∀ (old : Page) (fs : List Nat) (value : Nat → Nat), fs.length = 48 → firstBad (pageChecks fs) = none →
    let p := Page.ofFields old fs
    p.hasSum = true → (p.build value).length = p.used ∧ onesSum 0 (p.build value) = 0xFFFF


/-! ## Chapter 4: the frame buffer and the queues -/

/-- What the banks other than `k` keep, when frames may have been freed: their records, but that a RETIRING one may retire. -/
def Sys2Proof.Machine.banksKeep (k : Fin 4) (s t : State) : Prop :=
  ∀ j, j ≠ k → (s.bank j).state ≠ .retiring → t.bank j = s.bank j

/-- R75: an IN_SERVICE bank whose counts have come to `b` is left as it is, goes to RETIRING (and on to RETIRED when it holds no block),
or, as the only bank in service, waits to be retired. -/
def Sys2Proof.Machine.retiredBy (k : Fin 4) (b : Bank) (s t : State) : Prop :=
  let worn := 2 ≤ b.uncorrectable ∨ s.mge.table.correctedLimit ≤ b.corrected
  let cause : RetireCause := if 2 ≤ b.uncorrectable then .uncorrectable else .correctedLimit
  let others : Prop := ∃ j, j ≠ k ∧ (s.bank j).state = .inService
  (¬worn → t.bank k = b)
    ∧ (worn → others → t.bank k = { b with
        state := if t.fbf.held.any (bankOf · == k) then .retiring else .retired, cause, retirePending := false }
        ∧ (∀ n ∈ t.fbf.free, bankOf n ≠ k) ∧ t.mge.has .bankChange = true)
    ∧ (worn → ¬others → t.bank k = { b with retirePending := true, cause })
    ∧ (worn → ¬others ∨ b.retirePending = false → s.alc.alarms.length < 32 → t.alc.holdsActive .bankFault (k.val + 1) = true)

/-- No notice is owed and nothing is addressed to a control station: a raise sends no frame. -/
def Sys2Proof.Machine.mute (s : State) : Prop :=
  s.mge.owed = [] ∧ s.mge.table.enables = 0 ∧ s.mge.table.station1 = ⟨0, 0⟩ ∧ s.mge.table.station2 = ⟨0, 0⟩

/-- R74: `w`, the one word in error of the buffer, is a word that the bytes of `f` occupy: a read of `f` meets it. -/
def Sys2Proof.Machine.meets (w : BadWord) (f : Stored) (x : State) : Prop :=
  x.fbf.bad = [w] ∧ ∃ i < (f.body.size + 7) / 8, f.blocks[i / 16]? = some w.block ∧ i % 16 = w.word

/-- R74: the record of the bank that holds `w`, once the read has counted it. -/
def Sys2Proof.Machine.countedBank (w : BadWord) (x : State) : Bank :=
  let b := x.bank (bankOf w.block)
  if w.fatal = true then { b with uncorrectable := countUp b.uncorrectable } else { b with corrected := countUp b.corrected }

/-- R75: with that count, an IN_SERVICE bank has reached retirement. -/
def Sys2Proof.Machine.wears (w : BadWord) (x : State) : Prop :=
  let b := countedBank w x
  b.state = .inService ∧ (2 ≤ b.uncorrectable ∨ x.mge.table.correctedLimit ≤ b.corrected)

/-- R74, R75: between `x` and `t` a read has met `w`. Its bank's count has gone on and no other bank's, BANK_CHANGE is raised if it is
uncorrectable, and a bank in service has been tested for retirement. -/
def Sys2Proof.Machine.counted (w : BadWord) (x t : State) : Prop :=
  let k := bankOf w.block
  let b := countedBank w x
  (t.bank k).corrected = b.corrected ∧ (t.bank k).uncorrectable = b.uncorrectable
    ∧ (∀ j, j ≠ k → (t.bank j).corrected = (x.bank j).corrected ∧ (t.bank j).uncorrectable = (x.bank j).uncorrectable)
    ∧ (w.fatal = true → t.mge.has .bankChange = true)
    ∧ (b.state = .inService → retiredBy k b x t)
    ∧ (b.state ≠ .inService → t.bank k = { b with state := (t.bank k).state }
        ∧ ((t.bank k).state = b.state ∨ b.state = .retiring ∧ (t.bank k).state = .retired))

/-- R74: a read of `f` has ended at the uncorrectable word `w`. The word is counted, the frame is discarded and its blocks are freed, the
queues stand, and no event but BANK_CHANGE is raised (where the bank wears out, said of a list with room and the outputs as R163 to R165 have
them: the BANK_FAULT then closes no segment and nothing is sent). -/
def Sys2Proof.Machine.spoils (w : BadWord) (f : Stored) (x y : State) : Prop :=
  counted w x y ∧ y.still = x.still ∧ (¬wears w x → y.quiet = x.quiet)
    ∧ (¬wears w x ∨ (x.outputsSound = true ∧ x.alc.alarms.length < 32) →
        y.egs = x.egs ∧ (∀ n ∈ f.blocks, n ∉ y.fbf.held) ∧ ∀ e, y.mge.has e = (x.mge.has e || e == .bankChange))

/-- The rows by which an endpoint takes its frame from LOCAL. -/
def Sys2Proof.Machine.localRows : List (Upsets → Instr) :=
  [.spurReset, .exchangeRuleset, .bankRetire, .bankRestore, .sampleReceive, .resetTrip, .inhibit, .endInhibit, .zoneReportReceive,
    .forceZoneTrip, .releaseZoneForce, .clearReporter, .callSetupReceive, .callAlertReceive, .callConnectReceive,
    .callVoiceReceive, .callReleaseReceive, .releaseCircuit, .entryRequestReceive, .haulClearReceive, .beaconReceive,
    .openSegment, .closeSegment, .releaseOccupant, .ackAlarm, .postAlarm, .clearPosted, .alarmFrameDiscard, .read, .readTrunks,
    .writeNode, .writeWindows, .writeDirection, .writeRulesetA, .writeRulesetB, .writeReplyPages, .writeChannels, .writeZones,
    .writeRelays, .writeSegments, .writeRoster, .writeActions, .writeSpurs, .writeOther, .clearEvents, .save, .restart,
    .mgmtFrameDiscard, .badOperationRequest]

/-- R74, R82: CLASSIFY_FRAME, or an endpoint's row at LOCAL, reads a frame with one word in error. A corrected one is counted and the frame is
used; at an uncorrectable one the frame is discarded, and EGS hands over the next one, if there is one. -/
def Sys2Proof.Machine.readsInside (u : Upsets) (w : BadWord) (s : State) : Prop :=
  (∀ (p : PortId) (v : Waiting), s.cls.waiting.find? (·.port == p) = some v →
    let x := (s.upsets u).setCls { s.cls with waiting := s.cls.waiting.erase v }
    meets w v.frame x →
      ∃ t, exec (.classifyFrame p u) s = .next t ∧ counted w x t ∧ (¬wears w x → classified s v t)
        ∧ (w.fatal = true → spoils w v.frame x t))
  ∧ ∀ f : Stored, (s.queue localQueue).frames.find? s.endpointReady = some f → s.staleVoice f = false →
    let x := (s.upsets u).unqueue localQueue f
    let y := (x.readFrame f).2
    meets w f x →
      (∀ d, w.fatal = false → f.body = .drift d → d.dst.station = 240 →
        ∃ t, exec (.alarmFrameDiscard u) s = .next t ∧ counted w x t ∧ t.still = s.still
          ∧ (¬wears w x → t.quiet = s.quiet ∧ t.egs = x.egs ∧ ∀ n ∈ f.blocks, n ∉ t.fbf.held))
      ∧ (w.fatal = true → spoils w f x y
        ∧ ((y.queue localQueue).frames.find? y.endpointReady = none → ∀ row ∈ localRows, exec (row u) s = .next y)
        ∧ ∀ g d, y.hands [] g.station g d = true → stationClass g.station = some d.cls → ∀ row ∈ localRows, localRow d [] = row [] →
            exec (row u) s = exec (row []) y)

/-- R74, R33: SPUR_TRANSMIT_DONE comes to a frame with one word in error. A corrected one is counted and the frame is sent; at an
uncorrectable one the frame is discarded and the transmitter takes the next one, if there is one. -/
def Sys2Proof.Machine.readsOnLine (u : Upsets) (w : BadWord) (s : State) : Prop :=
  ∀ (n : Fin 6) (f : Stored) (rest : List Stored),
    let x := (s.upsets u).lineLeft n
    let y := frameLeft s (s.spur n)
    let q := s.queue (spurQueue n)
    let leaves (z : SpurPort) (l : List Stored) (t : State) : Prop :=
      t.quiet = (s.setSpur n z).quiet ∧ t.queue (spurQueue n) = { q with frames := l } ∧ ∀ r, r ≠ spurQueue n → t.queue r = s.queue r
    y.state = .active → y.poll.waiting = false → y.setsWaiting = [] → q.frames = f :: rest → s.staleVoice f = false → meets w f x →
      ∃ t, exec (.spurTransmitDone n u) s = .next t ∧ counted w x t
        ∧ (w.fatal = false → t.still = (s.setSpur n { y with tx := some (.stored f) }).still
            ∧ (¬wears w x → leaves { y with tx := some (.stored f) } rest t))
        ∧ (w.fatal = true → ¬wears w x → (∀ m ∈ f.blocks, m ∉ t.fbf.held) ∧ (∀ e, t.mge.has e = (s.mge.has e || e == .bankChange))
            ∧ (rest = [] → leaves y [] t)
            ∧ ∀ g more, rest = g :: more → s.staleVoice g = false → leaves { y with tx := some (.stored g) } more t)

/-- R74, R14: TRUNK_TRANSMIT_DONE comes to a frame with one word in error: the same of the trunk transmitter. -/
def Sys2Proof.Machine.readsOnTrunk (u : Upsets) (w : BadWord) (s : State) : Prop :=
  ∀ (p : TPort) (f : Stored) (rest : List Stored),
    let x := (s.upsets u).trunkCutOff p
    let q := s.queue (trunkQueue p)
    let leaves (tx : Option TrunkTx) (l : List Stored) (t : State) : Prop :=
      t.quiet = (s.setTrunk p { s.trunk p with tx }).quiet ∧ t.queue (trunkQueue p) = { q with frames := l }
        ∧ ∀ r, r ≠ trunkQueue p → t.queue r = s.queue r
    (s.trunk p).state = .up → (s.trunk p).helloWaiting = false → q.frames = f :: rest → s.staleVoice f = false → meets w f x →
      ∃ t, exec (.trunkTransmitDone p u) s = .next t ∧ counted w x t
        ∧ (w.fatal = false → t.trunk p = { s.trunk p with tx := some (.stored f) } ∧ t.still = (s.setTrunk p (t.trunk p)).still
            ∧ (¬wears w x → leaves (some (.stored f)) rest t))
        ∧ (w.fatal = true → ¬wears w x → (∀ m ∈ f.blocks, m ∉ t.fbf.held) ∧ (∀ e, t.mge.has e = (s.mge.has e || e == .bankChange))
            ∧ (rest = [] → leaves none [] t)
            ∧ ∀ g more, rest = g :: more → s.staleVoice g = false → leaves (some (.stored g)) more t)

/-- BANK_RETIRE and BANK_RESTORE, by the state of the bank at the moment; and SCRUB_TIMER_EXPIRY: the bank is IN_SERVICE again with its
counts 0 and no BANK_FAULT, its 64 blocks are at the tail of the pool, and no pending retirement is left. A read that meets a word in
error, at each place that reads a frame (CLASSIFY_FRAME, TRUNK_TRANSMIT_DONE, SPUR_TRANSMIT_DONE, an endpoint's row at LOCAL): a corrected
one is counted and the frame is used; an uncorrectable one is counted, the frame is discarded, BANK_CHANGE is raised and the reader goes on
to its next frame; the bank is then tested for retirement. (The details of the refusals: notes/assumptions/24.md; the order of the words of
one read: notes/assumptions/37.md.) -/
def Obligations.BanksRetireAndReturn : Prop :=
  (∀ (u : Upsets) (f : Stored) (d : Frame) (s : State), s.commands u f d (.bankRetire []) 1 = true →
      let x := s.taken u f
      (4 ≤ arg (commandArgs d.payload) 1 →
        Answers (exec (.bankRetire u) s) d ⟨.badIndex, 0⟩ [] fun t => t.quiet = s.quiet)
      ∧ ∀ k : Fin 4, arg (commandArgs d.payload) 1 = k.val →
        let b := x.bank k
        let others : Prop := ∃ j, j ≠ k ∧ (x.bank j).state = .inService
        (b.state = .inService → others →
          Answers (exec (.bankRetire u) s) d okStatus [] fun t =>
            t.bank k = { b with
                state := if t.fbf.held.any (bankOf · == k) then .retiring else .retired, cause := .command, retirePending := false }
              ∧ (∀ n ∈ t.fbf.free, bankOf n ≠ k) ∧ banksKeep k x t ∧ t.mge.has .bankChange = true ∧ t.still = s.still
              ∧ (b.retirePending = false → s.alc.alarms.length < 32 → t.alc.holdsActive .bankFault (k.val + 1) = true))
        ∧ (b.state = .inService → ¬others →
          Answers (exec (.bankRetire u) s) d ⟨.stillActive, 0⟩ [] fun t => t.quiet = s.quiet ∧ t.fbf = x.fbf)
        ∧ (b.state = .retiring ∨ b.state = .retired →
          Answers (exec (.bankRetire u) s) d okStatus [] fun t => t.quiet = s.quiet ∧ t.fbf = x.fbf)
        ∧ (b.state = .restoring →
          Answers (exec (.bankRetire u) s) d ⟨.busy, 0⟩ [] fun t => t.quiet = s.quiet ∧ t.fbf = x.fbf))
  ∧ ((∀ (u : Upsets) (f : Stored) (d : Frame) (s : State), s.commands u f d (.bankRestore []) 1 = true →
      let x := s.taken u f
      (4 ≤ arg (commandArgs d.payload) 1 →
        Answers (exec (.bankRestore u) s) d ⟨.badIndex, 0⟩ [] fun t => t.quiet = s.quiet)
      ∧ ∀ k : Fin 4, arg (commandArgs d.payload) 1 = k.val →
        let b := x.bank k
        (b.state = .retired →
          Answers (exec (.bankRestore u) s) d okStatus [] fun t =>
            t.bank k = { b with state := .restoring, scrubDue := some (s.after 10) } ∧ (∀ j, j ≠ k → t.bank j = x.bank j)
              ∧ t.fbf.free = x.fbf.free ∧ t.fbf.held = x.fbf.held
              ∧ t.fbf.reserve = min 16 ((64 * t.fbf.banks.toList.countP (·.state != .retired)) / 4)
              ∧ t.mge.has .bankChange = true ∧ t.quiet = s.quiet)
        ∧ (b.state = .inService →
          Answers (exec (.bankRestore u) s) d okStatus [] fun t =>
            t.bank k = { b with corrected := 0, uncorrectable := 0, retirePending := false, cause := .noCause }
              ∧ banksKeep k x t ∧ t.still = s.still
              ∧ (b.retirePending = false → t.quiet = s.quiet)
              ∧ (b.retirePending = true → s.alarmsSound = true → t.alc.holdsActive .bankFault (k.val + 1) = false))
        ∧ (b.state = .retiring →
          Answers (exec (.bankRestore u) s) d ⟨.stillActive, 0⟩ [] fun t => t.quiet = s.quiet ∧ t.fbf = x.fbf)
        ∧ (b.state = .restoring →
          Answers (exec (.bankRestore u) s) d ⟨.busy, 0⟩ [] fun t => t.quiet = s.quiet ∧ t.fbf = x.fbf))
    ∧ ∀ (k : Fin 4) (s : State), (s.bank k).state = .restoring → s.expired (s.bank k).scrubDue = true →
        (s.bank k).retirePending = false → s.alarmsSound = true →
        ∃ t, exec (.scrubTimerExpiry k) s = .next t ∧ t.still = s.still
          ∧ t.bank k = { s.bank k with state := .inService, cause := .noCause, corrected := 0, uncorrectable := 0, scrubDue := none }
          ∧ t.alc.holdsActive .bankFault (k.val + 1) = false
          ∧ (∀ j, (t.bank j).retirePending = false
              ∧ ((s.bank j).retirePending = true → (t.bank j).state = .retiring ∨ (t.bank j).state = .retired))
          ∧ ((∀ j, (s.bank j).retirePending = false) → s.mge.owed = [] → s.mge.table.enables = 0 →
              s.alc.find .bankFault (k.val + 1) = none →
              t.fbf.free = s.fbf.free ++ (List.range 64).map (64 * k.val + ·) ∧ t.quiet = s.quiet))
  ∧ ∀ (u : Upsets) (w : BadWord) (s : State), s.poolSound = true → mute s →
      readsInside u w s ∧ readsOnLine u w s ∧ readsOnTrunk u w s

/-- The frame buffer keeps its account: every block of a bank in service is free or held by exactly one frame, and no block of another
bank is free; each bank's state agrees with the blocks it holds, the reserve stands by its rule and the queues in service
order. Every step keeps it. -/
def Obligations.BufferAccountIsKept : Prop :=
  ∀ s t : State, s.poolSound = true → s.banksSound = true → s.queuesOrdered = true → Sys2Proof.Machine.step s = .next t →
    t.poolSound = true ∧ t.banksSound = true ∧ t.queuesOrdered = true

/-! ## Chapter 5: air readings -/

/-- R98: the computed state, from the causes, the latch, the smoothed value and the prior state. -/
def Sys2Proof.Machine.derivedState (x : Channel) (prior : ChState) : ChState :=
  let held := prior = .warn ∨ prior = .trip
  if x.latched ∨ x.causes.level ∨ x.causes.rise ∨ x.causes.overRange then .trip
  else if x.causes.fail then .fault
  else if (x.cfg.sense = .high ∧ (x.cfg.warn ≤ x.smoothed ∨ (held ∧ x.cfg.warn ≤ x.smoothed + x.cfg.hysteresis)))
      ∨ (x.cfg.sense = .low ∧ (x.smoothed ≤ x.cfg.warn ∨ (held ∧ x.smoothed ≤ x.cfg.warn + x.cfg.hysteresis))) then .warn
  else .normal

/-- A channel after a derivation (R98): computed state, latch and state. -/
def Sys2Proof.Machine.derivedChannel (x : Channel) : Channel :=
  let computed := derivedState x x.computed
  { x with
    computed
    latched := x.latched || ((x.causes.level || x.causes.rise || x.causes.overRange) && x.cfg.latch && x.state != .inhibited)
    state := if x.state = .inhibited then .inhibited else computed }

/-- R93, R94: the calibrated value of a sample word that is not indefinite, with the OVER and UNDER flags. -/
def Sys2Proof.Machine.calibratedBy (c : ChannelCfg) (word : Nat) : Nat × Bool × Bool :=
  if word / 16384 = 0 then
    let q := ((((word % 16384 : Nat) : Int) - c.zeroOffset) * c.gain + 2048) / 4096
    if q < 0 then (0, false, false) else if (c.fullScale : Int) < q then (c.fullScale, true, false) else (q.toNat, false, false)
  else if word / 16384 = 1 then (c.fullScale, true, false)
  else (0, false, true)

/-- R95: the smoothed value, one step toward the calibrated one. -/
def Sys2Proof.Machine.smoothedBy (x : Channel) (v : Nat) : Nat :=
  if x.computed = .starting then v
  else if x.smoothed < v then x.smoothed + max 1 ((v - x.smoothed) / 2 ^ x.cfg.shift)
  else if v < x.smoothed then x.smoothed - max 1 ((x.smoothed - v) / 2 ^ x.cfg.shift)
  else x.smoothed

/-- R91 to R98: a channel after an accepted sample that is not indefinite. -/
def Sys2Proof.Machine.sampledChannel (x : Channel) (word : Nat) (now : Time) : Channel :=
  let (v, above, below) := calibratedBy x.cfg word
  let m := smoothedBy x v
  let moved : Int := match x.cfg.sense with
    | .high => (m : Int) - x.markValue
    | .low => (x.markValue : Int) - m
  let tested := x.computed ≠ .starting ∧ x.causes.fail = false
  let remark := x.cfg.riseWindow = 0 ∨ ¬tested ∨ x.cfg.riseWindow * 1000 ≤ (now - x.markTime).toNat
  let level := match x.cfg.sense with
    | .high => if x.causes.level then decide (x.cfg.trip ≤ m + x.cfg.hysteresis) else decide (x.cfg.trip ≤ m)
    | .low => if x.causes.level then decide (m ≤ x.cfg.trip + x.cfg.hysteresis) else decide (m ≤ x.cfg.trip)
  derivedChannel { x with
    lastRaw := word
    flags := ⟨above, below, false⟩
    calibrated := v
    smoothed := m
    markValue := if remark then m else x.markValue
    markTime := if remark then now else x.markTime
    lastValid := now
    causes := {
      level
      rise := if x.cfg.riseWindow = 0 then false
        else if tested ∧ remark then decide ((x.cfg.riseLimit : Int) ≤ moved)
        else x.causes.rise
      overRange := above && x.cfg.overTrips
      fail := false } }

/-- What a contributing channel counts as toward its zone (R104). -/
def Sys2Proof.Machine.countsAs (x : Channel) : ChState :=
  if x.latched then .trip
  else if x.computed = .fault then (if x.cfg.failTrips then .trip else .warn)
  else x.computed

/-- R107: the local state of a zone. -/
def Sys2Proof.Machine.zoneLocal (s : State) (z : Fin 31) : ZState :=
  let cs := s.channels.toList.filter fun x => x.cfg.enabled && x.cfg.zone == z.val + 1 && x.state != .inhibited
  if (s.zone z).force || cs.any (countsAs · == .trip) then .trip
  else if cs.any (fun x => countsAs x == .warn || countsAs x == .starting) || ((s.zone z).monitored && cs.isEmpty) then .alert
  else .clear

/-- R113: the combined state of a zone; a zone that is not enabled takes no reporter into it (R105). -/
def Sys2Proof.Machine.zoneCombined (x : Zone) (l : ZState) : ZState :=
  if x.enabled = false then l
  else if l = .trip ∨ x.reporters.any (·.state == .trip) then .trip
  else if l = .alert ∨ x.reporters.any (fun r => r.state == .alert || r.state == .stale) then .alert
  else .clear

/-- R152: a zone's combined state and haul policy let its segments reopen. -/
def Sys2Proof.Machine.reopens (c : ZState) (policy : HaulPolicy) : Bool := c == .clear || (c == .alert && policy != .close)

/-- R134: the circuits after a transition of zone `n` into TRIP. -/
def Sys2Proof.Machine.escalated (n : Nat) (l : List Circuit) : List Circuit :=
  l.map fun c => if c.zone = n ∧ (c.prec = .normal ∨ c.prec = .priority) then { c with prec := .zone } else c

/-- R151: a segment has been closed for gas: its command-close flag and its occupants stand, and a waiting list it had is gone, unless it
was closed for gas already. -/
def Sys2Proof.Machine.closedForGas (g g' : Segment) : Prop :=
  g'.state = .gasClosed ∧ g'.commandClose = g.commandClose ∧ g'.occupants = g.occupants
    ∧ g'.waiting = if g.state = .gasClosed then g.waiting else []

/-- R151, R152: the used segments of zone `n`, whose combined state is now `c`. A transition into TRIP (`moved`) closes each for gas. In
another state a zone that is locked down keeps them GAS_CLOSED; in one that is not, a GAS_CLOSED segment with
auto-reopen reopens to what its command-close flag says, when the zone allows it and HLC has been told of something (a transition, a
policy `told`, or the lockdown's end); every other segment keeps its state. -/
def Sys2Proof.Machine.segmentsFollow (n : Nat) (c : ZState) (moved told : Bool) (s t : State) : Prop :=
  ∀ i : Fin 16,
    let g := s.segment i
    let g' := t.segment i
    g.id ≠ 0 → g.zone = n →
      (c = .trip → moved = true → closedForGas g g')
      ∧ (c ≠ .trip → s.outputsSound = true → s.alarmsSound = true → s.gasSound = true →
          g'.commandClose = g.commandClose
            ∧ (t.lockedDown n = true → g'.state = .gasClosed)
            ∧ (t.lockedDown n = false →
                let tested := moved = true ∨ told = true ∨ s.lockedDown n = true
                if g.state = .gasClosed ∧ g.autoReopen = true ∧ tested ∧ reopens c (t.policy n) = true then
                  g'.state = (if g.commandClose then .closed else .opened)
                else g'.state = g.state))

/-- A zone has been evaluated (R107, R113): its record stands as the channels and reporters give it, ALC's copy follows a transition,
GAS_TRIP follows the local state and GAS_WARN an ALERT of which a contributing channel's WARN is the cause, and no other zone has changed.
A transition into TRIP raises the zone's NORMAL and PRIORITY circuits to ZONE (R134) and closes its segments (R151); another transition
may reopen them (R152). `reported`: a report is sent besides (R106); `told`: HLC is told of a new policy besides. -/
def Sys2Proof.Machine.zoneEvaluatedWith (reported told : Bool) (z : Fin 31) (s t : State) : Prop :=
  let x := s.zone z
  let l := zoneLocal s z
  let moved := x.combined ≠ zoneCombined x l
  let warns := l = .alert ∧ ∃ c ∈ s.channels.toList, c.cfg.enabled = true ∧ c.cfg.zone = z.val + 1
    ∧ c.state ≠ .inhibited ∧ countsAs c = .warn
  t.zone z = { x with
      localState := l, combined := zoneCombined x l, evaluated := true
      lastSent := if (x.localState ≠ l ∧ x.enabled = true) ∨ reported = true then s.time else x.lastSent
      gasWarn := decide warns }
    ∧ (∀ y, y ≠ z → t.zone y = s.zone y) ∧ t.base = s.base
    ∧ (moved → t.alc.zoneCopy[z] = zoneCombined x l)
    ∧ t.csw.circuits = (if moved ∧ zoneCombined x l = .trip then escalated (z.val + 1) s.csw.circuits else s.csw.circuits)
    ∧ segmentsFollow (z.val + 1) (zoneCombined x l) (decide moved) told s t
    ∧ (s.alc.alarms.length < 32 → x.localState ≠ .trip → l = .trip → t.alc.holdsActive .gasTrip (z.val + 1) = true)
    ∧ (s.alarmsSound = true → x.localState = .trip → l ≠ .trip → t.alc.holdsActive .gasTrip (z.val + 1) = false)
    ∧ (s.alc.alarms.length < 32 → x.gasWarn = false → warns → t.alc.holdsActive .gasWarn (z.val + 1) = true)
    ∧ (s.alarmsSound = true → x.gasWarn = true → ¬warns → t.alc.holdsActive .gasWarn (z.val + 1) = false)

/-- A zone has been evaluated, and nothing else has happened to it. -/
def Sys2Proof.Machine.zoneEvaluated (z : Fin 31) (s t : State) : Prop := zoneEvaluatedWith false false z s t

/-- The zone that a channel names has been evaluated; a channel of zone 0 has none, and its handing on does nothing. -/
def Sys2Proof.Machine.handedOn (n : Nat) (s t : State) : Prop :=
  (∀ z : Fin 31, n = z.val + 1 → zoneEvaluated z s t) ∧ ((∀ z : Fin 31, n ≠ z.val + 1) → t.quiet = s.quiet)

/-- What `y`, which the raise or the clear of one condition has made of `s`, has from `s`: all but the traffic and what an alarm moves; the
list, grown by `more` entries at most; the soundness of the list, of what it drives and of the segments, so that what is said of an
evaluation from `y` under these can be read off `s`; and haul control, where no action closes segments. -/
def Sys2Proof.Machine.alarmStands (more : Nat) (s y : State) : Prop :=
  y.still = s.still ∧ y.alc.alarms.length ≤ s.alc.alarms.length + more
    ∧ (s.alarmsSound = true → s.alc.alarms.length ≤ 32 → y.alarmsSound = true)
    ∧ (s.alarmsSound = true → s.outputsSound = true → y.outputsSound = true)
    ∧ (s.gasSound = true → y.gasSound = true)
    ∧ (s.outputsSound = true → (∀ a : Fin 16, (s.alc.actions[a]).mode ≠ .lockdown) → y.hlc = s.hlc)

/-- SAMPLE_RECEIVE: a sample that an enabled channel accepts runs the stages, clears CHANNEL_FAULT if FAIL was set, and hands the channel to
its zone; an indefinite one changes the last raw word and the flags only; a refused one raises SAMPLE_REJECTED, or nothing for destination
node 63; AIR frames of subtype 2 and above are discarded. -/
def Obligations.SampleIsEvaluated : Prop :=
  ∀ (u : Upsets) (f : Stored) (d : Frame) (s : State), s.hands u 241 f d = true → d.subtype ≠ 1 →
    ∃ t, exec (.sampleReceive u) s = .next t
      ∧ (d.subtype ≠ 0 → t.quiet = s.quiet)
      ∧ (d.subtype = 0 → ∀ c : Fin 48, d.tag = c.val → (s.channel c).cfg.enabled = true → (s.channel c).cfg.source = d.src →
          2 ≤ d.payload.length →
          let x := s.channel c
          let word := halfAt d.payload 0
          (word / 16384 = 3 → t.quiet = (s.setChannel c { x with lastRaw := word, flags := ⟨false, false, true⟩ }).quiet)
          ∧ (word / 16384 ≠ 3 →
              let y := (s.taken u f).setChannel c (sampledChannel x word s.time)
              let y' := if x.causes.fail = true then y.clearAlarm .channelFault c.val else y
              t.base = y.base ∧ alarmStands 0 y y' ∧ handedOn x.cfg.zone y' t
                ∧ (x.causes.fail = true → s.alarmsSound = true → t.alc.holdsActive .channelFault c.val = false)))
      ∧ (d.subtype = 0 → (∀ c : Fin 48, d.tag = c.val → (s.channel c).cfg.enabled = true → (s.channel c).cfg.source = d.src →
          d.payload.length < 2) →
          t.quiet = s.quiet ∧ (d.dst.node ≠ 63 → t.mge.has .sampleRejected = true)
            ∧ (d.dst.node = 63 → t.mge.has .sampleRejected = s.mge.has .sampleRejected))

/-- R99, R98, R100, R104: channel `c` has gone stale. FAIL is set and the state derived; CHANNEL_FAULT is raised, unless the channel is
INHIBITED; and the channel is handed to its zone. (The raise before the handing on: notes/assumptions/41.md.) -/
def Sys2Proof.Machine.staleExpired (c : Fin 48) (s t : State) : Prop :=
  let x := s.channel c
  let y := s.setChannel c (derivedChannel { x with causes := { x.causes with fail := true } })
  let y' := if x.state = .inhibited then y else y.raiseAlarm .channelFault c.val x.cfg.zone none
  t.base = y.base ∧ alarmStands 1 y y' ∧ handedOn x.cfg.zone y' t
    ∧ (x.state ≠ .inhibited → s.alc.alarms.length < 31 → t.alc.holdsActive .channelFault c.val = true)

/-- R102, R100, R104: an inhibit has started on channel `c`. Its CHANNEL_FAULT condition clears, and the channel is handed to its zone, to
which it no longer contributes. -/
def Sys2Proof.Machine.inhibitStarted (c : Fin 48) (inhibitEnd : Time) (s t : State) : Prop :=
  let x := s.channel c
  let y := s.setChannel c { x with state := .inhibited, inhibitEnd }
  let y' := if x.causes.fail = true then y.clearAlarm .channelFault c.val else y
  t.base = y.base ∧ alarmStands 0 y y' ∧ handedOn x.cfg.zone y' t
    ∧ (x.causes.fail = true → s.alarmsSound = true → t.alc.holdsActive .channelFault c.val = false)

/-- R103, R98, R100, R104: the inhibit of channel `c` has ended. The state is derived; CHANNEL_FAULT is raised if FAIL is set; and the
channel is handed to its zone. -/
def Sys2Proof.Machine.inhibitEnded (c : Fin 48) (s t : State) : Prop :=
  let x := s.channel c
  let y := s.setChannel c (derivedChannel { x with inhibitEnd := 0, state := x.computed })
  let y' := if x.causes.fail = true then y.raiseAlarm .channelFault c.val x.cfg.zone none else y
  t.base = y.base ∧ alarmStands 1 y y' ∧ handedOn x.cfg.zone y' t
    ∧ (x.computed ≠ .inhibited → (t.channel c).state ≠ .inhibited)
    ∧ (x.causes.fail = true → s.alc.alarms.length < 31 → t.alc.holdsActive .channelFault c.val = true)

/-- STALE_EXPIRY and INHIBIT_EXPIRY: the channel after each, its CHANNEL_FAULT condition, and the hand-off to its zone. RESET_TRIP,
INHIBIT and END_INHIBIT, by the channel they name. Each evaluation of a zone starts from the state that the channel's change and the raise
or the clear of its CHANNEL_FAULT have made; what AlarmsAreListedClearedAndAcknowledged says of every raise and clear holds of that one.
(The derivation of a channel that is STARTING: notes/assumptions/32.md. The details of the refusals: notes/assumptions/24.md.) -/
def Obligations.ChannelsExpireAndObeyCommands : Prop :=
  (∀ (c : Fin 48) (s : State),
      let x := s.channel c
      (x.cfg.enabled = true → x.causes.fail = false → x.cfg.staleLimit * 1000 ≤ (s.time - x.lastValid).toNat →
        ∃ t, exec (.staleExpiry c) s = .next t ∧ staleExpired c s t)
      ∧ (x.state = .inhibited → s.reached x.inhibitEnd = true →
        ∃ t, exec (.inhibitExpiry c) s = .next t ∧ inhibitEnded c s t))
  ∧ ∀ (u : Upsets) (f : Stored) (d : Frame) (s : State),
      let args := commandArgs d.payload
      (s.commands u f d (.resetTrip []) 1 = true →
        (48 ≤ arg args 1 → Answers (exec (.resetTrip u) s) d ⟨.badIndex, 0⟩ [] fun t => t.quiet = s.quiet)
        ∧ ∀ c : Fin 48, arg args 1 = c.val →
          let x := s.channel c
          let caused := x.causes.level ∨ x.causes.rise ∨ x.causes.overRange ∨ x.causes.fail
          (x.cfg.enabled = false ∨ x.latched = false →
            Answers (exec (.resetTrip u) s) d okStatus [] fun t => t.quiet = s.quiet)
          ∧ (x.cfg.enabled = true → x.latched = true → caused →
            Answers (exec (.resetTrip u) s) d ⟨.stillActive, 0⟩ [] fun t => t.quiet = s.quiet)
          ∧ (x.cfg.enabled = true → x.latched = true → ¬caused →
            Answers (exec (.resetTrip u) s) d okStatus [] fun t =>
              let y := (s.taken u f).setChannel c (derivedChannel { x with latched := false, computed := .trip })
              t.base = y.base ∧ handedOn x.cfg.zone y t))
      ∧ (s.commands u f d (.inhibit []) 2 = true →
        (48 ≤ arg args 1 → Answers (exec (.inhibit u) s) d ⟨.badIndex, 0⟩ [] fun t => t.quiet = s.quiet)
        ∧ ∀ c : Fin 48, arg args 1 = c.val →
          let x := s.channel c
          let inhibitEnd := s.after (min 30 (max 1 (arg args 2)) * 60000)
          (x.cfg.enabled = false → Answers (exec (.inhibit u) s) d ⟨.badValue, 1⟩ [] fun t => t.quiet = s.quiet)
          ∧ (x.cfg.enabled = true → x.latched = true →
            Answers (exec (.inhibit u) s) d ⟨.stillActive, 0⟩ [] fun t => t.quiet = s.quiet)
          ∧ (x.cfg.enabled = true → x.latched = false → x.state = .inhibited →
            Answers (exec (.inhibit u) s) d okStatus [] fun t => t.quiet = (s.setChannel c { x with inhibitEnd }).quiet)
          ∧ (x.cfg.enabled = true → x.latched = false → x.state ≠ .inhibited →
            Answers (exec (.inhibit u) s) d okStatus [] (inhibitStarted c inhibitEnd (s.taken u f))))
      ∧ (s.commands u f d (.endInhibit []) 1 = true →
        (48 ≤ arg args 1 → Answers (exec (.endInhibit u) s) d ⟨.badIndex, 0⟩ [] fun t => t.quiet = s.quiet)
        ∧ ∀ c : Fin 48, arg args 1 = c.val →
          let x := s.channel c
          (x.state ≠ .inhibited → Answers (exec (.endInhibit u) s) d okStatus [] fun t => t.quiet = s.quiet)
          ∧ (x.state = .inhibited → Answers (exec (.endInhibit u) s) d okStatus [] (inhibitEnded c (s.taken u f))))

/-! ## Chapter 6: zones and permit relays -/

/-- FORCE_ZONE_TRIP and RELEASE_ZONE_FORCE: the flag is set or cleared and the zone evaluated; where the flag stands so already, and
for a zone number of 0 or above 31, nothing changes. (The refusal's detail: notes/assumptions/24.md.) -/
def Obligations.ForceZoneTripAndRelease : Prop :=
  ∀ (u : Upsets) (f : Stored) (d : Frame) (force : Bool) (s : State),
    let row : Instr := if force then .forceZoneTrip [] else .releaseZoneForce []
    let c : Instr := if force then .forceZoneTrip u else .releaseZoneForce u
    let n := arg (commandArgs d.payload) 1
    s.commands u f d row 1 = true →
      (n = 0 ∨ 31 < n → Answers (exec c s) d ⟨.badIndex, 0⟩ [] fun t => t.quiet = s.quiet)
      ∧ ∀ z : Fin 31, n = z.val + 1 →
        ((s.zone z).force = force → Answers (exec c s) d okStatus [] fun t => t.quiet = s.quiet)
        ∧ ((s.zone z).force ≠ force → Answers (exec c s) d okStatus [] fun t =>
            ∃ y : State, y.quiet = (s.setZone z { s.zone z with force }).quiet ∧ zoneEvaluated z y t
              ∧ (force = true → (t.zone z).combined = .trip))

/-- A zone's reporter list after a report of a node (R110). -/
def Sys2Proof.Machine.reportersAfter (rs : List Reporter) (r : Reporter) (now : Time) : List Reporter :=
  if rs.any (·.node == r.node) then rs.map fun x => if x.node = r.node then r else x
  else if rs.length < 8 then rs ++ [r]
  else match oldestClear now rs with
    | some x => rs.erase x ++ [r]
    | none => rs

/-- R110, R111 and R112. ZONE_REPORT_RECEIVE: a report that fails a check, or that is dropped, ends the step with nothing done; any other
changes the list by R110's table, and the zone is evaluated. REPORTER_AGEING: the entry is STALE and the zone is evaluated; an entry of
less than 35 s, and one that is STALE, stays. CLEAR_REPORTER: the four cases of R112. The list keeps one entry for a node, and eight at
most. -/
def Obligations.ReportersComeAndAge : Prop :=
  (∀ (u : Upsets) (f : Stored) (d : Frame) (s : State), s.hands u 241 f d = true → d.subtype = 1 →
    let bad := d.src.station ≠ 241 ∨ d.src.node = 0 ∨ 62 < d.src.node ∨ d.src.node = s.node ∨ d.tag = 0 ∨ 31 < d.tag
      ∨ d.payload.length < 2 ∨ 2 < halfAt d.payload 0
    ∃ t, exec (.zoneReportReceive u) s = .next t
      ∧ (bad → t = (s.taken u f).settle ∧ t.quiet = s.quiet)
      ∧ ∀ z : Fin 31, d.tag = z.val + 1 → ¬bad →
          let x := s.zone z
          let st : RepState := if halfAt d.payload 0 = 0 then .clear else if halfAt d.payload 0 = 1 then .alert else .trip
          let known := x.reporters.any (·.node == d.src.node) = true
          let full := ¬known ∧ 8 ≤ x.reporters.length
          (x.enabled = false → t = (s.taken u f).settle ∧ t.quiet = s.quiet)
          ∧ (x.enabled = true → full → st = .clear → t = (s.taken u f).settle ∧ t.quiet = s.quiet)
          ∧ (x.enabled = true → full → st ≠ .clear → (∀ r ∈ x.reporters, r.state ≠ .clear) →
              t = ((s.taken u f).raise .zoneReportOverflow).settle ∧ t.mge.has .zoneReportOverflow = true ∧ t.quiet = s.quiet)
          ∧ (x.enabled = true → ¬full ∨ (st ≠ .clear ∧ ∃ r ∈ x.reporters, r.state = .clear) →
              ∃ y : State, y.quiet = (s.setZone z { x with
                reporters := reportersAfter x.reporters ⟨d.src.node, st, s.time⟩ s.time }).quiet ∧ zoneEvaluated z y t))
  ∧ (∀ (z : Fin 31) (node : Nat) (s : State),
      (∃ r ∈ (s.zone z).reporters, r.node = node ∧ r.state ≠ .stale ∧ 35000 ≤ (s.time - r.time).toNat) →
      ∃ t, exec (.reporterAgeing z node) s = .next t
        ∧ ∃ y : State, y.quiet = (s.setZone z { s.zone z with
            reporters := (s.zone z).reporters.map fun r => if r.node = node then { r with state := .stale } else r }).quiet
          ∧ zoneEvaluated z y t)
  ∧ (∀ (z : Fin 31) (node : Nat) (s : State),
      (∀ r ∈ (s.zone z).reporters, r.node = node → r.state = .stale ∨ (s.time - r.time).toNat < 35000) →
      exec (.reporterAgeing z node) s = .next s.settle)
  ∧ (∀ (rs : List Reporter) (r : Reporter) (now : Time), (rs.map (·.node)).Nodup → rs.length ≤ 8 →
      ((reportersAfter rs r now).map (·.node)).Nodup ∧ (reportersAfter rs r now).length ≤ 8)
  ∧ ∀ (u : Upsets) (f : Stored) (d : Frame) (s : State), s.commands u f d (.clearReporter []) 2 = true →
      let n := arg (commandArgs d.payload) 1
      let node := arg (commandArgs d.payload) 2
      let refused (status : Status) : Prop :=
        ∃ detail, Answers (exec (.clearReporter u) s) d ⟨status, detail⟩ [] fun t => t = s.taken u f ∧ t.quiet = s.quiet
      (n = 0 ∨ 31 < n → refused .badIndex)
      ∧ ∀ z : Fin 31, n = z.val + 1 →
        ((∀ r ∈ (s.zone z).reporters, r.node ≠ node) →
          Answers (exec (.clearReporter u) s) d okStatus [] fun t => t = s.taken u f ∧ t.quiet = s.quiet)
        ∧ ∀ before r after, (s.zone z).reporters = before ++ r :: after → r.node = node → (∀ x ∈ before, x.node ≠ node) →
          (r.state ≠ .stale → refused .stillActive)
          ∧ (r.state = .stale → Answers (exec (.clearReporter u) s) d okStatus [] fun t =>
              ∃ y : State, y.quiet = (s.setZone z { s.zone z with reporters := before ++ after }).quiet ∧ zoneEvaluated z y t)

/-- ZONE_REPORT_PERIODIC: when it is due, the zone's local state goes out to every node with the zone's number as tag and zone, by the
direction table's entry for node 63, and the period starts afresh. -/
def Obligations.ZoneReportGoesOutPeriodically : Prop :=
  ∀ (z : Fin 31) (s : State),
    let x := s.zone z
    let n := z.val + 1
    let due := x.enabled = true ∧ 10000 ≤ (s.time - x.lastSent).toNat
      ∧ (x.force = true ∨ ∃ c, (s.channel c).cfg.enabled = true ∧ (s.channel c).cfg.zone = n)
    (¬due → ∃ t, exec (.zoneReportPeriodic z) s = .next t ∧ t.quiet = s.quiet)
    ∧ (due →
      ∃ t, exec (.zoneReportPeriodic z) s = .next t ∧ t.quiet = (s.setZone z { x with lastSent := s.time }).quiet
        ∧ ∀ p, s.entryPort 63 = some p → s.node ≠ 63 → s.fbf.admits .air 1 = true → s.room (trunkQueue p) 1 = true →
            s.mge.owed = [] →
            joined (trunkQueue p) {
              body := .drift {
                cls := .air, level := 11, hop := 127, wrapped := false, dst := ⟨63, 241⟩, src := ⟨s.node, 241⟩, zone := n
                subtype := 1, tag := n, payload := [0, byte x.localState.ctorIdx] }
              level := 11, blocks := s.fbf.free.take 1, origin := .zoneReport, arrival := none, ctx := none
              target := .allDrops, entry := none } s t)

/-- RELAY_FEEDBACK_CHANGE and MISMATCH_TIMER_EXPIRY: the mismatch timer runs for 200 ms while command and feedback disagree; at its
end the fault stands and RELAY_FAULT is raised; when they agree again both go. (A SEVERITY_AT_LEAST relay may follow its own fault:
when its command moves, the fault ends with it.) -/
def Obligations.RelayFaultFollowsFeedback : Prop :=
  ∀ (k : Fin 4) (s : State),
    let r := s.relay k
    (∃ t, exec (.relayFeedbackChange k r.closed) s = .next t ∧ t.quiet = s.quiet)
    ∧ (∀ closed, closed ≠ r.closed → closed ≠ r.energised →
      ∃ t, exec (.relayFeedbackChange k closed) s = .next t
        ∧ t.quiet = (s.setRelay k { r with closed, mismatchDue := some (s.after 200) }).quiet)
    ∧ (∀ closed, closed ≠ r.closed → closed = r.energised → r.fault = false →
      ∃ t, exec (.relayFeedbackChange k closed) s = .next t
        ∧ t.quiet = (s.setRelay k { r with closed, mismatchDue := none }).quiet)
    ∧ (∀ closed, closed ≠ r.closed → closed = r.energised → r.fault = true → s.alarmsSound = true →
      ∃ t, exec (.relayFeedbackChange k closed) s = .next t ∧ (t.relay k).closed = closed
        ∧ t.still = (s.setRelay k { r with closed }).still ∧ t.alc.holdsActive .relayFault (k.val + 1) = false
        ∧ (r.func ≠ .severityAtLeast ∨ s.outputsSound = true → (t.relay k).fault = false ∧ (t.relay k).mismatchDue = none))
    ∧ (s.expired r.mismatchDue = true →
      ∃ t, exec (.mismatchTimerExpiry k) s = .next t ∧ t.still = s.still
        ∧ (r.func ≠ .severityAtLeast → (t.relay k).energised = r.energised)
        ∧ ((t.relay k).energised = r.energised → (t.relay k).fault = true ∧ (t.relay k).mismatchDue = none
            ∧ (s.alc.alarms.length < 32 → t.alc.holdsActive .relayFault (k.val + 1) = true))
        ∧ ((t.relay k).energised ≠ r.energised → (t.relay k).energised = r.closed → s.alarmsSound = true →
            (t.relay k).fault = false ∧ (t.relay k).mismatchDue = none ∧ t.alc.holdsActive .relayFault (k.val + 1) = false))

/-- R115: no ZONE_PERMIT relay is energised while a zone of its mask is in TRIP or has not been evaluated: every step keeps it. -/
def Obligations.PermitRelaysGuardTheirZones : Prop :=
  ∀ s t : State, s.permitsSound = true → Sys2Proof.Machine.step s = .next t → t.permitsSound = true


/-! ## Chapter 7: calls -/

/-- A port takes a frame of CSW: it is UP, or the party's drop is present on an ACTIVE line. -/
def Sys2Proof.Machine.State.leads (s : State) (p : PortId) (station : Nat) : Prop :=
  match p with
  | .trunk q => s.up q = true
  | .spur n => (s.spur n).state = .active ∧ ∃ e, s.station? n e = some station ∧ (s.spur n).drops[e].present = true

/-- A frame of CSW toward a port gets through: FBF takes it, and the port does. -/
def Sys2Proof.Machine.State.reaches (s : State) (p : PortId) (station bytes : Nat) : Prop :=
  s.fbf.admits .call (blocksFor (12 + bytes)) = true ∧ s.leads p station

/-- The frame that CSW sends toward a port (R121): to the neighbour's CSW over the trunk, to the party's station over a spur. -/
def Sys2Proof.Machine.callTo (s : State) (p : PortId) (station subtype level zone tag : Nat) (payload : List Byte) : Frame where
  cls := .call
  level := level
  hop := 127
  wrapped := false
  dst := match p with
    | .trunk q => ⟨(s.trunk q).nb.node, 243⟩
    | .spur _ => ⟨s.node, station⟩
  src := ⟨s.node, 243⟩
  zone := zone
  subtype := subtype
  tag := tag
  payload := payload

/-- A frame waits on a port's queue. -/
def Sys2Proof.Machine.waitsFor (p : PortId) (d : Frame) (t : State) : Prop :=
  ∃ g ∈ (t.queue (portQueue p)).frames, g.body = .drift d

/-- CSW takes next a frame of a subtype that has come by a port and was not sent to every node. -/
def Sys2Proof.Machine.State.calls (s : State) (u : Upsets) (f : Stored) (d : Frame) (p : PortId) (subtype : Nat) : Prop :=
  s.hands u 243 f d = true ∧ f.arrival = some p ∧ d.subtype = subtype ∧ d.dst.node ≠ 63 ∧ s.mge.table.enables = 0
    ∧ s.mge.owed = []

/-- R122: a SETUP that can be read, as the circuit it asks for names it (`c`, but for id, side B, precedence and times). -/
def Sys2Proof.Machine.asksFor (s : State) (p : PortId) (d : Frame) (c : Circuit) (prec : Precedence) : Prop :=
  let b := Addr.ofCode (halfAt d.payload 2)
  6 ≤ d.payload.length ∧ c.sideA = p ∧ c.width = byteAt d.payload 4 ∧ (c.width = 1 ∨ c.width = 2)
    ∧ byteAt d.payload 5 = prec.ctorIdx ∧ c.zone = d.zone ∧ c.partyB ≠ c.partyA
    ∧ 1 ≤ c.partyB.node ∧ c.partyB.node ≤ 62 ∧ 1 ≤ c.partyB.station ∧ c.partyB.station ≤ 239
    ∧ c.state = .pending ∧ c.deadline = s.after 10000 ∧ c.admitted = s.time ∧ c.connect = 0
    ∧ match p with
      | .spur _ => c.partyA = d.src ∧ c.partyB = (if b.node = 0 then ⟨s.node, b.station⟩ else b)
      | .trunk _ => c.partyA = Addr.ofCode (halfAt d.payload 0) ∧ c.partyB = b ∧ 1 ≤ d.tag ∧ d.tag ≤ 1023

/-- R122: the id of a new circuit, and the pointer after it. -/
def Sys2Proof.Machine.givesId (s : State) (p : PortId) (d : Frame) (id next : Nat) : Prop :=
  match p with
  | .spur _ => 1 ≤ s.node ∧ ∃ j < 16, id = (s.node - 1) * 16 + 1 + (s.csw.nextId + j) % 16
      ∧ next = (s.csw.nextId + j + 1) % 16 ∧ (∀ c ∈ s.csw.circuits, c.id ≠ id)
      ∧ ∀ i < j, ∃ c ∈ s.csw.circuits, c.id = (s.node - 1) * 16 + 1 + (s.csw.nextId + i) % 16
  | .trunk _ => id = d.tag ∧ next = s.csw.nextId ∧ ∀ c ∈ s.csw.circuits, c.id ≠ d.tag

/-- R123: side B. -/
def Sys2Proof.Machine.leadsTo (s : State) (p : PortId) (party : Addr) (b : PortId) : Prop :=
  (party.node = s.node → ∃ n e, b = .spur n ∧ s.dropOfStation? party.station = some (n, e) ∧ (s.spur n).state = .active
      ∧ (s.spur n).drops[e].present = true)
    ∧ (party.node ≠ s.node → match p with
      | .spur _ => (s.entryPort party.node).map PortId.trunk = some b
      | .trunk q => s.up q.other = true ∧ b = .trunk q.other)

/-- R124: circuit `x` is preempted before `y`: lower precedence first, then circuits not yet CONNECTED, then the latest. -/
def Sys2Proof.Machine.goesFirst (s : State) (x y : Circuit) : Prop :=
  x.prec.ctorIdx < y.prec.ctorIdx ∨ (x.prec = y.prec ∧
    ((x.state ≠ .connected ∧ y.state = .connected)
      ∨ (x.state ≠ .connected ∧ y.state ≠ .connected ∧ (s.time - x.admitted).toNat < (s.time - y.admitted).toNat)
      ∨ (x.state = .connected ∧ y.state = .connected ∧ (s.time - x.connect).toNat < (s.time - y.connect).toNat)))

/-- R122: party A and party B of a SETUP. -/
def Sys2Proof.Machine.partiesOf (s : State) (p : PortId) (d : Frame) : Addr × Addr :=
  let b := Addr.ofCode (halfAt d.payload 2)
  match p with
  | .spur _ => (d.src, if b.node = 0 then ⟨s.node, b.station⟩ else b)
  | .trunk _ => (Addr.ofCode (halfAt d.payload 0), b)

/-- R122, R186: a SETUP that cannot be read. -/
def Sys2Proof.Machine.unreadable (s : State) (p : PortId) (d : Frame) : Prop :=
  let b := (partiesOf s p d).2
  d.payload.length < 6 ∨ (byteAt d.payload 4 ≠ 1 ∧ byteAt d.payload 4 ≠ 2) ∨ 3 < byteAt d.payload 5
    ∨ b.node = 0 ∨ 62 < b.node ∨ b.station = 0 ∨ 239 < b.station ∨ b = (partiesOf s p d).1
    ∨ match p with
      | .spur _ => False
      | .trunk _ => d.tag = 0 ∨ 1023 < d.tag

/-- R122: a SETUP finds no entry, for the cause DUPLICATE (2) or NO_ENTRY (3). -/
def Sys2Proof.Machine.noEntry (s : State) (p : PortId) (d : Frame) (cause : Nat) : Prop :=
  let full := 32 ≤ s.csw.circuits.length
  match p with
  | .spur _ => cause = 3 ∧ (full ∨ s.node = 0 ∨ ∀ j < 16, ∃ c ∈ s.csw.circuits, c.id = (s.node - 1) * 16 + 1 + j)
  | .trunk _ =>
    let known := ∃ c ∈ s.csw.circuits, c.id = d.tag
    (cause = 2 ∧ known) ∨ (cause = 3 ∧ ¬known ∧ full)

/-- R123: a SETUP for a party finds no way on. -/
def Sys2Proof.Machine.noWayOn (s : State) (p : PortId) (party : Addr) : Prop :=
  if party.node = s.node then
    ∀ n e, s.dropOfStation? party.station = some (n, e) →
      (s.spur n).state ≠ .active ∨ (s.spur n).drops[e].present = false
  else match p with
    | .spur _ => s.up .east = false ∧ s.up .west = false
    | .trunk q => s.up q.other = false

/-- A raise or a clear of one entry of the alarm list sends nothing but announcements: what the list drives stands as computed, the list
has room, and no action closes segments. -/
def Sys2Proof.Machine.State.calm (s : State) : Prop :=
  s.outputsSound = true ∧ s.banksSound = true ∧ s.alc.alarms.length < 32 ∧ ∀ k : Fin 16, (s.alc.actions[k]).mode ≠ .lockdown

/-- R126: an ORIGIN circuit of precedence EMERGENCY of the station stands in a table. -/
def Sys2Proof.Machine.emergencyOf (circuits : List Circuit) (station : Nat) : Prop :=
  ∃ x ∈ circuits, x.prec = .emergency ∧ x.partyA.station = station ∧ ∃ n, x.sideA = .spur n

/-- R122 to R126: a SETUP has been refused with a cause, `s'` being the node once CSW has taken it. The table stands as it stood, and a
RELEASE with the cause waits for the port it came by, with its level, and its tag or, for a handset, 0. An originating EMERGENCY that
could be read had its condition raised, and it is cleared again unless another such circuit of the station stands. -/
def Sys2Proof.Machine.turnedDown (s s' : State) (p : PortId) (d : Frame) (cause : Nat) (t : State) : Prop :=
  let urgent := (∃ n, p = .spur n) ∧ byteAt d.payload 5 = 3 ∧ cause ≠ 12
  let slack := if urgent then 3 else 1
  let tag := match p with
    | .spur _ => 0
    | .trunk _ => d.tag
  t.csw = s.csw ∧ (¬urgent → t.quiet = s.quiet)
    ∧ (¬urgent ∨ s.calm → s'.reaches p d.src.station 1 → s'.fbf.admits .call slack = true → s.room (portQueue p) slack = true →
        waitsFor p (callTo s p d.src.station 3 d.level 0 tag [byte cause]) t)
    ∧ (urgent → emergencyOf s.csw.circuits d.src.station → s.alc.alarms.length < 32 →
        t.alc.holdsActive .callEmergency d.src.station = true)
    ∧ (urgent → ¬emergencyOf s.csw.circuits d.src.station → s.alarmsSound = true →
        t.alc.holdsActive .callEmergency d.src.station = false)

/-- R124: circuits chosen for preemption on a port: candidates, in R124's order, as many as cover a shortfall and no more. -/
def Sys2Proof.Machine.covers (s : State) (side : PortId) (short : Nat) (candidates chosen : List Circuit) : Prop :=
  let units := (chosen.map (·.unitsOn side)).sum
  (∀ x ∈ chosen, x ∈ candidates) ∧ chosen.Nodup ∧ short ≤ units
    ∧ (∀ x ∈ candidates, ∀ y ∈ chosen, goesFirst s x y → x ∈ chosen)
    ∧ (short = 0 → chosen = [])
    ∧ (0 < short → ∃ y ∈ chosen, (∀ x ∈ chosen, ¬goesFirst s y x) ∧ units < short + y.unitsOn side)

/-- CALL_SETUP_RECEIVE. A SETUP that cannot be read, finds no entry, no way on or no units is refused with the cause, and answered. One
that fits both sides' budgets joins the table and goes on toward side B; so does one for which circuits have been released, each with
PREEMPTED toward both its sides. The circuits released are all of lower precedence; CALL_EMERGENCY stands while an emergency circuit of
this node does. The circuits released are candidates of side A's port, taken in R124's order, as many as cover its shortfall and no more,
and then such candidates of side B's port for what those leave short there; where either side cannot be covered, none is released. A SETUP
that FBF refuses is lost with QUEUE_DISCARD and its circuit is released; the RELEASE with PATH_LOST toward side A (R121) is a frame of the
same class and size, which FBF then refuses too. (When the condition of an emergency call is raised, and
that the RELEASE of a refused one goes before its clear: notes/assumptions/39.md.) -/
def Obligations.CallSetupIsAdmitted : Prop :=
  ∀ (u : Upsets) (f : Stored) (d : Frame) (p : PortId) (s : State), s.calls u f d p 0 → s.csw.nextId < 16 →
    let s' := s.taken u f
    ∃ t, exec (.callSetupReceive u) s = .next t
      ∧ (unreadable s p d → turnedDown s s' p d 12 t)
      ∧ (¬unreadable s p d → ∀ cause ∈ [2, 3], noEntry s p d cause → turnedDown s s' p d cause t)
      ∧ (¬unreadable s p d → ¬noEntry s p d 2 → ¬noEntry s p d 3 → noWayOn s p (partiesOf s p d).2 → turnedDown s s' p d 4 t)
      ∧ ∀ c prec next, asksFor s p d c prec → givesId s p d c.id next → s.csw.circuits.length < 32 →
          leadsTo s p c.partyB c.sideB →
          c.prec = (if (prec = .normal ∨ prec = .priority) ∧ s.combined c.zone = .trip then .zone else prec) →
          let fits := s.reserved c.sideA + c.unitsOn c.sideA ≤ s.budget c.sideA
            ∧ s.reserved c.sideB + c.unitsOn c.sideB ≤ s.budget c.sideB
          let urgent := prec = .emergency ∧ ∃ n, p = .spur n
          let gone := s.csw.circuits.filter fun x => !t.csw.circuits.contains x
          let passedOn := waitsFor c.sideB (callTo s c.sideB c.partyB.station 0 c.prec.level c.zone c.id
            (bytes16 c.partyA.code ++ bytes16 c.partyB.code ++ [byte c.width, byte c.prec.ctorIdx])) t
          (¬urgent → fits → s'.reaches c.sideB c.partyB.station 6 →
            t.quiet = (s.setCsw { circuits := s.csw.circuits ++ [c], nextId := next }).quiet
              ∧ (s.room (portQueue c.sideB) 1 = true → passedOn))
          ∧ (urgent → fits → s.calm → s'.reaches c.sideB c.partyB.station 6 → s'.fbf.admits .call 3 = true →
            t.csw = { circuits := s.csw.circuits ++ [c], nextId := next } ∧ { t with csw := s.csw }.still = s.still
              ∧ (s.room (portQueue c.sideB) 3 = true → passedOn))
          ∧ (¬urgent → fits → ¬s'.reaches c.sideB c.partyB.station 6 →
            t.quiet = (s.setCsw { s.csw with nextId := next }).quiet ∧ t.mge.has .queueDiscard = true ∧ t.egs = s'.egs)
          ∧ (urgent → fits → s.calm → s'.fbf.admits .call 1 = false → (∀ q, s.room q 2 = true) →
            t.csw = { s.csw with nextId := next } ∧ t.mge.has .queueDiscard = true
              ∧ (¬emergencyOf s.csw.circuits c.partyA.station → s.alarmsSound = true →
                t.alc.holdsActive .callEmergency c.partyA.station = false))
          ∧ (¬fits → c.prec = .normal ∨ gone = [] → turnedDown s s' p d 5 t ∧ t.mge.has .circuitRefused = true)
          ∧ (s.voiceSound = true → ∀ x ∈ gone, x.prec.ctorIdx < c.prec.ctorIdx)
          ∧ (let most := 2 * gone.length + 3
            gone ≠ [] → s.voiceSound = true → s.banksSound = true → ¬urgent ∨ s.calm → s'.reaches c.sideB c.partyB.station 6 →
            s'.fbf.admits .call most = true →
              t.csw = { circuits := (s.csw.circuits.filter fun x => !gone.contains x) ++ [c], nextId := next }
                ∧ (s.room (portQueue c.sideB) most = true → passedOn)
                ∧ ∀ x ∈ gone, ∀ side ∈ [(x.sideA, x.partyA), (x.sideB, x.partyB)],
                  s'.reaches side.1 side.2.station 1 → s.room (portQueue side.1) most = true →
                    waitsFor side.1 (callTo s side.1 side.2.station 3 x.prec.level x.zone x.id [6]) t)
          ∧ (let short (side : PortId) : Nat := s.reserved side + c.unitsOn side - s.budget side
            let candidates (side : PortId) : List Circuit :=
              s.csw.circuits.filter fun x => decide (0 < x.unitsOn side ∧ x.prec.ctorIdx < c.prec.ctorIdx)
            let units (side : PortId) (l : List Circuit) : Nat := (l.map (·.unitsOn side)).sum
            let uncovered (side : PortId) : Prop := units side (candidates side) < short side
            s.voiceSound = true → c.prec ≠ .normal → ¬fits →
              (uncovered c.sideA ∨ uncovered c.sideB → gone = [])
              ∧ (¬uncovered c.sideA → ¬uncovered c.sideB → ∃ a b, (∀ x, x ∈ gone ↔ x ∈ a ∨ x ∈ b)
                ∧ covers s c.sideA (short c.sideA) (candidates c.sideA) a
                ∧ covers s c.sideB (short c.sideB - units c.sideB a) ((candidates c.sideB).filter fun x => !a.contains x) b))
          ∧ (prec = .emergency → (∃ n, p = .spur n) → s.alc.alarms.length < 32 →
            emergencyOf t.csw.circuits c.partyA.station → t.alc.holdsActive .callEmergency c.partyA.station = true)

/-- R120: a frame belongs to circuit `c`, and comes from side A (`fromA`) or side B. (One that meets both
tests: notes/assumptions/43.md.) -/
def Sys2Proof.Machine.belongs (s : State) (p : PortId) (d : Frame) (c : Circuit) (fromA : Bool) : Prop :=
  let own (side : PortId) (party : Addr) : Prop := side = p ∧ ∀ n, p = .spur n → d.src.station = party.station
  s.circuit? d.tag = some c ∧ if fromA then own c.sideA c.partyA else own c.sideB c.partyB ∧ ¬own c.sideA c.partyA

/-- The circuits with `c`'s record replaced. -/
def Sys2Proof.Machine.State.withCircuit (s : State) (c : Circuit) : State :=
  s.setCsw { s.csw with circuits := s.csw.circuits.map fun x => if x.id = c.id then c else x }

/-- A circuit has been released (R129): its record is gone, its emergency condition with it when no other of its party stands, and
nothing else but what the alarm list drives has changed. -/
def Sys2Proof.Machine.released (c : Circuit) (s t : State) : Prop :=
  t.csw = { s.csw with circuits := s.csw.circuits.filter (·.id != c.id) } ∧ t.base = s.base
    ∧ (c.prec ≠ .emergency ∨ c.role ≠ 0 → { t with csw := s.csw }.quiet = s.quiet)
    ∧ (c.prec = .emergency → c.role = 0 → s.alarmsSound = true →
      (∀ x ∈ s.csw.circuits, x.id ≠ c.id → x.role = 0 → x.prec = .emergency → x.partyA.station ≠ c.partyA.station) →
        t.alc.holdsActive .callEmergency c.partyA.station = false)

/-- R126: a circuit whose release may end a CALL_EMERGENCY condition. -/
def Sys2Proof.Machine.urgentCircuit (c : Circuit) : Bool := c.prec == .emergency && c.role == 0

/-- A RELEASE with a cause waits for the queue of a side of a circuit, where `n` frames of its size find room, `n` being the most that
the step releases there. When a condition may end with it (`urgent`), two announcements may go there besides. -/
def Sys2Proof.Machine.releaseSent (urgent : Bool) (n : Nat) (s t : State) (c : Circuit) (a : Bool) (cause : Nat) : Prop :=
  let side := if a then c.sideA else c.sideB
  let party := if a then c.partyA else c.partyB
  let most := if urgent then n + 2 else n
  urgent = false ∨ s.calm → s.reaches side party.station 1 → s.fbf.admits .call most = true → s.room (portQueue side) most = true →
    s.mge.table.enables = 0 → waitsFor side (callTo s side party.station 3 c.prec.level c.zone c.id [byte cause]) t

/-- R120, R132: a frame that belongs to no circuit on either of its sides leaves the table alone, whether or not its tag names one; UNKNOWN,
with the frame's tag and level, goes back toward where it came from. -/
def Sys2Proof.Machine.strayCall (s s' : State) (p : PortId) (d : Frame) (answer : Bool) (t : State) : Prop :=
  (∀ c fromA, ¬belongs s p d c fromA) → t.quiet = s.quiet
    ∧ (answer = true → s'.reaches p d.src.station 1 → s.room (portQueue p) 1 = true →
        waitsFor p (callTo s p d.src.station 3 d.level 0 d.tag [9]) t)

/-- CALL_ALERT_RECEIVE, CALL_CONNECT_RECEIVE and CALL_VOICE_RECEIVE: an ALERT or CONNECT from side B moves the circuit on and goes to
side A, or, where it cannot be sent, releases the circuit toward side B with PATH_LOST; voice passes a CONNECTED circuit either way and
renews its deadline; a frame that belongs to neither side, and one that the circuit's state or side gives nothing to do, leaves the table
alone. -/
def Obligations.CallsProgress : Prop :=
  ∀ (u : Upsets) (f : Stored) (d : Frame) (p : PortId) (s : State),
    (s.calls u f d p 1 → ∃ t, exec (.callAlertReceive u) s = .next t
      ∧ (∀ c, belongs s p d c false → c.state = .pending → (s.taken u f).reaches c.sideA c.partyA.station 0 →
          t.quiet = (s.withCircuit { c with state := .alerting, deadline := s.after 45000 }).quiet
            ∧ (s.room (portQueue c.sideA) 1 = true →
              waitsFor c.sideA (callTo s c.sideA c.partyA.station 1 c.prec.level c.zone c.id []) t))
      ∧ (∀ c, belongs s p d c false → c.state = .alerting → (s.taken u f).reaches c.sideA c.partyA.station 0 →
          t.quiet = s.quiet
            ∧ (s.room (portQueue c.sideA) 1 = true →
              waitsFor c.sideA (callTo s c.sideA c.partyA.station 1 c.prec.level c.zone c.id []) t))
      ∧ (∀ c, belongs s p d c false → c.state ≠ .connected → ¬(s.taken u f).reaches c.sideA c.partyA.station 0 →
          released c s t ∧ (s.poolSound = true → releaseSent (urgentCircuit c) 2 (s.taken u f) t c false 10))
      ∧ (∀ c, belongs s p d c false → c.state = .connected → t.quiet = s.quiet)
      ∧ (∀ c, belongs s p d c true → t.quiet = s.quiet) ∧ strayCall s (s.taken u f) p d true t)
    ∧ (s.calls u f d p 2 → ∃ t, exec (.callConnectReceive u) s = .next t
      ∧ (∀ c, belongs s p d c false → c.state ≠ .connected → (s.taken u f).reaches c.sideA c.partyA.station 0 →
          t.quiet = (s.withCircuit { c with state := .connected, connect := s.time, deadline := s.after 30000 }).quiet
            ∧ (s.room (portQueue c.sideA) 1 = true →
              waitsFor c.sideA (callTo s c.sideA c.partyA.station 2 c.prec.level c.zone c.id []) t))
      ∧ (∀ c, belongs s p d c false → c.state ≠ .connected → ¬(s.taken u f).reaches c.sideA c.partyA.station 0 →
          released c s t ∧ (s.poolSound = true → releaseSent (urgentCircuit c) 2 (s.taken u f) t c false 10))
      ∧ (∀ c, belongs s p d c false → c.state = .connected → t.quiet = s.quiet)
      ∧ (∀ c, belongs s p d c true → t.quiet = s.quiet) ∧ strayCall s (s.taken u f) p d true t)
    ∧ (s.calls u f d p 4 → ∃ t, exec (.callVoiceReceive u) s = .next t
      ∧ (∀ c fromA, belongs s p d c fromA → c.state = .connected →
          let side := if fromA then c.sideB else c.sideA
          let party := if fromA then c.partyB else c.partyA
          t.quiet = (s.withCircuit { c with deadline := s.after 30000 }).quiet
            ∧ ((s.taken u f).reaches side party.station d.payload.length → s.room (portQueue side) 2 = true →
              waitsFor side (callTo s side party.station 4 c.prec.level c.zone c.id d.payload) t))
      ∧ (∀ c fromA, belongs s p d c fromA → c.state ≠ .connected → t.quiet = s.quiet)
      ∧ strayCall s (s.taken u f) p d false t)

/-- CALL_RELEASE_RECEIVE, CIRCUIT_DEADLINE_EXPIRY and RELEASE_CIRCUIT: the circuit is freed, and a RELEASE goes to its other side, or to
both with the cause of the case. A RELEASE of tag 0 from a handset frees the circuits that it has PENDING, each with a RELEASE toward its
side B. (The refusal's detail:
notes/assumptions/24.md.) -/
def Obligations.CallsAreReleased : Prop :=
  (∀ (u : Upsets) (f : Stored) (d : Frame) (p : PortId) (s : State), s.calls u f d p 3 →
    ∃ t, exec (.callReleaseReceive u) s = .next t
      ∧ (∀ c fromA, (∀ n, p = .spur n → d.tag ≠ 0) → belongs s p d c fromA →
          released c s t ∧ releaseSent (urgentCircuit c) 2 (s.taken u f) t c (!fromA) (byteAt d.payload 0))
      ∧ ((∀ n, p = .spur n → d.tag ≠ 0) → strayCall s (s.taken u f) p d false t)
      ∧ (∀ n, p = .spur n → d.tag = 0 → s.voiceSound = true →
          let cancelled := s.csw.circuits.filter fun c => c.state == .pending && c.sideA == .spur n && c.partyA == d.src
          t.csw.circuits = s.csw.circuits.filter (fun c => !cancelled.contains c)
            ∧ (cancelled.any urgentCircuit = false → t.quiet = (s.setCsw t.csw).quiet)
            ∧ ∀ c ∈ cancelled,
                releaseSent (cancelled.any urgentCircuit) cancelled.length (s.taken u f) t c false (byteAt d.payload 0)))
  ∧ (∀ (id : Nat) (c : Circuit) (s : State), s.circuit? id = some c → s.reached c.deadline = true →
    ∃ t, exec (.circuitDeadlineExpiry id) s = .next t ∧ released c s t
      ∧ ∀ a, s.banksSound = true → s.mge.owed = [] → releaseSent (urgentCircuit c) 2 s t c a (if c.state = .connected then 8 else 7))
  ∧ ∀ (u : Upsets) (f : Stored) (d : Frame) (s : State), s.commands u f d (.releaseCircuit []) 1 = true →
    let id := arg (commandArgs d.payload) 1
    (s.circuit? id = none → Answers (exec (.releaseCircuit u) s) d ⟨.badIndex, 0⟩ [] fun t => t.quiet = s.quiet)
    ∧ ∀ c, s.circuit? id = some c → Answers (exec (.releaseCircuit u) s) d okStatus [] fun t =>
        released c s t ∧ ∀ a, s.banksSound = true → releaseSent (urgentCircuit c) 2 (s.taken u f) t c a 13

/-- The units reserved on a port never exceed its voice budget, and no two circuits share an id: every step keeps it. -/
def Obligations.VoiceStaysWithinBudget : Prop :=
  ∀ s t : State, s.voiceSound = true → Sys2Proof.Machine.step s = .next t → t.voiceSound = true

/-! ## Chapter 8: haulage -/

/-- A truck's entry in a truck table changed. -/
def Sys2Proof.Machine.editTruck (ts : List Truck) (id : Nat) (g : Truck → Truck) : List Truck :=
  ts.map fun x => if x.id = id then g x else x

/-- A truck table with the entry of the truck that a frame came from refreshed from it (R139), if it has one. -/
def Sys2Proof.Machine.refreshedBy (s : State) (f : Stored) (d : Frame) (ts : List Truck) : List Truck :=
  editTruck ts d.tag fun x => { x with
    heard := s.time
    via := d.src
    page := f.ctx.bind fun c => if c.kind = .haulAnswer then c.page else none
    tag := (f.ctx.map (·.tag)).getD (Config.tagWithoutContext d.tag s.time).toNat }

/-- The truck table once HLC has heard a truck by a request (R139): an entry made where there is none, and refreshed. -/
def Sys2Proof.Machine.trucksHeard (s : State) (f : Stored) (d : Frame) : List Truck :=
  refreshedBy s f d (if s.hlc.trucks.any (·.id == d.tag) then s.hlc.trucks
    else s.hlc.trucks ++ [{ id := d.tag, heard := s.time, via := ⟨0, 0⟩, page := none, tag := 0, held := [], waiting := none }])

/-- R142: the native ANSWER with a decision, a reason and three numbers. -/
def Sys2Proof.Machine.answerOf (s : State) (truck : Nat) (dst : Addr) (decision reason segment lease position : Nat) : Frame where
  cls := .haul
  level := if decision = 3 then 12 else 10
  hop := 127
  wrapped := false
  dst := dst
  src := ⟨s.node, 242⟩
  zone := 0
  subtype := 3
  tag := truck
  payload := bytes16 decision ++ bytes16 reason ++ bytes16 segment ++ bytes16 lease ++ bytes16 position

/-- R142: a native ANSWER is on its way to another node by the trunk (R20), or to a drop of this one (R46), where `n` frames of its size
find room. -/
def Sys2Proof.Machine.answersNatively (n : Nat) (s t : State) (d : Frame) : Prop :=
  (∀ p, d.dst.node ≠ s.node → s.entryPort d.dst.node = some p → s.fbf.admits .haul n = true → s.room (trunkQueue p) n = true →
      ∃ g ∈ (t.queue (trunkQueue p)).frames, g.body = .drift d)
    ∧ ∀ k e, d.dst.node = s.node → 1 ≤ d.dst.station → d.dst.station ≤ 239 → s.dropOfStation? d.dst.station = some (k, e) →
      (s.spur k).state = .active → (s.spur k).drops[e].present = true → s.fbf.admits .haul n = true →
      s.room (spurQueue k) n = true → ∃ g ∈ (t.queue (spurQueue k)).frames, g.body = .drift d ∧ g.target = .drop e

/-- R142, R68: an answer built from reply page `k` is on its way to a drop, where `n` frames of its size find room. -/
def Sys2Proof.Machine.answersByPage (n : Nat) (s t : State) (k : Fin 8) (spur : Fin 6) (drop : Fin 16)
    (truck decision reason segment lease position tag : Nat) : Prop :=
  0 < s.cls.pages[k].used → (s.spur spur).state = .active → (s.spur spur).drops[drop].present = true →
    s.fbf.admits .bulk n = true → s.room (spurQueue spur) n = true →
    ∃ g ∈ (t.queue (spurQueue spur)).frames, g.level = (if decision = 3 then 12 else 10) ∧ g.target = .drop drop
      ∧ g.body = .raw (s.cls.pages[k].build fun kind =>
          if h : kind < 8 then
            #v[truck, decision, reason, segment, lease, position, s.time.toNat / 1000, tag][kind]
          else tag)

/-- The answer to a request (R142): from its reply page to the drop that was heard, where its context names one, and otherwise by the
native route, to its source. It goes where `n` frames find room, `n` being the most that the step may send there. -/
def Sys2Proof.Machine.answered (n : Nat) (s t : State) (f : Stored) (d : Frame) (decision reason segment lease position : Nat) : Prop :=
  ((∀ c, f.ctx = some c → c.kind ≠ .haulAnswer ∨ c.page = none) →
      answersNatively n s t (answerOf s d.tag d.src decision reason segment lease position))
    ∧ ∀ c k, f.ctx = some c → c.kind = .haulAnswer → c.page = some k →
      answersByPage n s t k c.spur c.drop d.tag decision reason segment lease position c.tag

/-- An unsolicited answer (R142) to the truck of table entry `y`: by its reply page, when it has one and was heard by a drop of this
node, with its last tag, and otherwise by the native route to its heard-via address. It goes where `n` frames find room, `n` being the
most that the step may send there. -/
def Sys2Proof.Machine.told (n : Nat) (s t : State) (y : Truck) (decision reason segment lease : Nat) : Prop :=
  s.mge.owed = [] → s.mge.table.enables = 0 → s.banksSound = true →
    match y.page, (if y.via.node = s.node then s.dropOfStation? y.via.station else none) with
    | some k, some (spur, drop) => answersByPage n s t k spur drop y.id decision reason segment lease 0 y.tag
    | _, _ => answersNatively n s t (answerOf s y.id y.via decision reason segment lease 0)

/-- R145: the occupants and the waiting list of a segment once each head that R143 and R144 let in has entered. The first head that fails
keeps its place and holds back the list behind it. -/
def Sys2Proof.Machine.entering (s : State) (g : Segment) : List Occupant → List WaitEntry → List Occupant × List WaitEntry
  | os, [] => (os, [])
  | os, w :: rest =>
    if s.barred g w.truck = false ∧ os.length < g.capacity ∧ ∀ o ∈ os, o.dir = w.dir then
      entering s g (os ++ [⟨w.truck, w.dir, s.time, s.after (g.lease * 1000), false⟩]) rest
    else (os, w :: rest)

/-- R145: a segment after promotion, which runs while it is OPEN. -/
def Sys2Proof.Machine.promoted (s : State) (g : Segment) : Segment :=
  if g.state = .opened then
    { g with occupants := (entering s g g.occupants g.waiting).1, waiting := (entering s g g.occupants g.waiting).2 }
  else g

/-- R144, R145: the truck table after promotion in a segment: the trucks that have entered hold it and wait no more. -/
def Sys2Proof.Machine.trucksPromoted (s : State) (g : Segment) (ts : List Truck) : List Truck :=
  ts.map fun y =>
    if g.waiting.any (·.truck == y.id) && !(promoted s g).waiting.any (·.truck == y.id) then
      { y with held := y.held ++ [g.id], waiting := none }
    else y

/-- No truck stands twice on the segment's waiting list (RoadsAreNeverHeadOn). -/
def Sys2Proof.Machine.waitsOnce (g : Segment) : Prop := (g.waiting.map (·.truck)).Nodup

/-- R145: promotion has run in segment `i`, which stood as `g` when it began (`x` is the node once the command is taken): the heads that
may enter have entered, the first that may not blocks the list, and each truck that has entered is told PROCEED with the lease. -/
def Sys2Proof.Machine.promotes (x s t : State) (i : Fin 16) (g : Segment) : Prop :=
  waitsOnce g → t.segment i = promoted s g
    ∧ ∀ w ∈ g.waiting, w ∉ (promoted s g).waiting → ∀ y, t.truck? w.truck = some y →
      told (g.waiting.length + 2) x t y 0 0 g.id g.lease

/-- R150: the entry of a truck that holds nothing, waits nowhere and has been silent for 600 s is gone. -/
def Sys2Proof.Machine.unlessSilent (s : State) (truck : Nat) (ts : List Truck) : List Truck :=
  ts.filter fun x => !(x.id == truck && x.held.isEmpty && x.waiting.isNone && decide (600000 ≤ (s.time - x.heard).toNat))

/-- R148: a truck is OVERDUE on segment `i` and on no other. -/
def Sys2Proof.Machine.lastOverdue (s : State) (i : Fin 16) (truck : Nat) : Prop :=
  s.truckOverdue truck = true ∧ ∀ j, j ≠ i → ∀ o ∈ (s.segment j).occupants, o.truck = truck → o.overdue = false

/-- ENTRY_REQUEST_RECEIVE: R143's order of checks, the answer, and what each outcome leaves in the truck table and the segment. A renewal
that clears the truck's last OVERDUE flag ends its condition (R148). A truck that is granted or joins here first gives up the place it has
on another list, and promotion runs there (R144). (The last tag of a frame with no reply context is a free value: notes/assumptions/4.md.
That the condition is cleared before PROCEED goes is THE MODEL'S CHOICE: notes/assumptions/41.md.) -/
def Obligations.EntryRequestIsDecided : Prop :=
  ∀ (u : Upsets) (f : Stored) (d : Frame) (s : State), s.hands u 242 f d = true → d.subtype = 1 →
    s.mge.owed = [] → s.mge.table.enables = 0 →
    ∃ t, exec (.entryRequestReceive u) s = .next t
      ∧ (d.payload.length < 4 ∨ s.segmentOf (halfAt d.payload 0) = none → t.quiet = s.quiet)
      ∧ ∀ i, 4 ≤ d.payload.length → s.segmentOf (halfAt d.payload 0) = some i →
        let g := s.segment i
        let truck := d.tag
        let code := halfAt d.payload 2
        let x := s.taken u f
        let enrolled := (s.rosterOf truck).any (·.enabled)
        let known := s.hlc.trucks.any (·.id == truck)
        let heard := trucksHeard s f d
        let comesTo (h : HaulControl) : Prop := t.quiet = (s.setHlc h).quiet
        let held := ((s.truck? truck).map (·.held.length)).getD 0
        let refused (reason : Nat) (h : HaulControl) : Prop := comesTo h ∧ answered 1 x t f d 2 reason g.id 0 0
        let withTrucks : HaulControl := { s.hlc with trucks := heard }
        let room := known ∨ s.hlc.trucks.length < 24
        let elsewhere := ((s.truck? truck).bind (·.waiting)).bind fun id => if id = g.id then none else s.segmentOf id
        let gives (then_ : HaulControl → Nat → Prop) : Prop :=
          match elsewhere with
          | none => then_ withTrucks 1
          | some j =>
            let there := { s.segment j with waiting := (s.segment j).waiting.filter (·.truck != truck) }
            waitsOnce (s.segment j) → promotes x s t j there
              ∧ then_ { withTrucks with
                  segments := s.hlc.segments.set j (promoted s there)
                  trucks := trucksPromoted s there (editTruck heard truck fun y => { y with waiting := none }) }
                (there.waiting.length + 1)
        if ¬enrolled then refused 1 s.hlc
        else if 1 < code then refused 2 s.hlc
        else if ¬room then refused 3 s.hlc
        else
          let dir : Direction := if code = 0 then .inbye else .outbye
          let z := s.combined g.zone
          let gas := g.state = .gasClosed ∨ z = .trip ∨ s.lockedDown g.zone ∨ (z = .alert ∧ s.policy g.zone = .close)
            ∨ (z = .alert ∧ s.policy g.zone = .admitRated ∧ s.rated truck = false)
          if g.occupants.any (·.truck == truck) then
            if g.state = .gasClosed then comesTo withTrucks ∧ answered 1 x t f d 3 6 g.id 0 0
            else
              let renewed : HaulControl := { withTrucks with segments := s.hlc.segments.set i { g with
                occupants := g.occupants.map fun o =>
                  if o.truck = truck then { o with leaseEnd := s.after (g.lease * 1000), overdue := false } else o } }
              (¬lastOverdue s i truck → comesTo renewed ∧ answered 1 x t f d 0 0 g.id g.lease 0)
                ∧ (lastOverdue s i truck → t.still = s.still
                  ∧ (∀ o ∈ (t.segment i).occupants, o.truck = truck →
                      o.leaseEnd = s.after (g.lease * 1000) ∧ o.overdue = false)
                  ∧ (s.alarmsSound = true → t.alc.holdsActive .haulOverdue truck = false)
                  ∧ (s.calm → t.hlc = renewed ∧ answered 3 x t f d 0 0 g.id g.lease 0))
          else if 2 ≤ held then refused 4 withTrucks
          else if g.state = .closed then refused 5 withTrucks
          else if gas then refused 6 withTrucks
          else if g.occupants.length < g.capacity ∧ (∀ o ∈ g.occupants, o.dir = dir)
              ∧ (∀ w ∈ g.waiting.head?, w.truck = truck) then
            gives fun h n =>
              comesTo { h with
                segments := h.segments.set i { g with
                  occupants := g.occupants ++ [⟨truck, dir, s.time, s.after (g.lease * 1000), false⟩]
                  waiting := g.waiting.filter (·.truck != truck) }
                trucks := editTruck h.trucks truck fun y => { y with
                  held := y.held ++ [g.id]
                  waiting := if g.waiting.any (·.truck == truck) then none else y.waiting } }
                ∧ answered n x t f d 0 0 g.id g.lease 0
          else if g.waiting.any (·.truck == truck) then
            comesTo { withTrucks with segments := s.hlc.segments.set i { g with
              waiting := g.waiting.map fun w => if w.truck = truck then { w with dir, time := s.time } else w } }
              ∧ answered 1 x t f d 1 0 g.id 0 (g.waiting.findIdx (·.truck == truck) + 1)
          else if g.waiting.length < 8 then
            gives fun h n =>
              comesTo { h with
                segments := h.segments.set i { g with waiting := g.waiting ++ [⟨truck, dir, s.time⟩] }
                trucks := editTruck h.trucks truck fun y => { y with waiting := some g.id } }
                ∧ answered n x t f d 1 0 g.id 0 (g.waiting.length + 1)
          else refused 3 withTrucks

/-- The occupant leaves segment `i`, `ts` being the truck table as the frame has refreshed it: whatever its lease and the waiting list, it
is off the segment, and the segment is off its entry; promotion then runs (`x` is the node once the command is taken), and the truck's
entry is tested for removal (R150). When the truck was OVERDUE here alone its condition is cleared. -/
def Sys2Proof.Machine.vacated (i : Fin 16) (truck : Nat) (ts : List Truck) (x s t : State) : Prop :=
  let g := s.segment i
  let left := { g with occupants := g.occupants.filter (·.truck != truck) }
  t.still = s.still
    ∧ ((∀ w ∈ g.waiting, w.truck ≠ truck) → ∀ o ∈ (t.segment i).occupants, o.truck ≠ truck)
    ∧ (s.roadsSound = true → ∀ x ∈ t.hlc.trucks, x.id = truck → g.id ∉ x.held)
    ∧ (¬lastOverdue s i truck → { t with hlc := s.hlc }.quiet = s.quiet)
    ∧ (¬lastOverdue s i truck ∨ s.calm → promotes x s t i left
      ∧ (waitsOnce g → t.hlc = { s.hlc with
          segments := s.hlc.segments.set i (promoted s left)
          trucks := unlessSilent s truck (trucksPromoted s left
            (editTruck ts truck fun y => { y with held := y.held.filter (· ≠ g.id) })) }))
    ∧ (lastOverdue s i truck → s.alarmsSound = true → t.alc.holdsActive .haulOverdue truck = false)

/-- HAUL_CLEAR_RECEIVE and RELEASE_OCCUPANT: the occupant leaves, the heads of the waiting list that can follow do and are told so, and
HAUL_OVERDUE ends with the truck's last overdue occupancy. A CLEAR refreshes the truck's entry, also where the truck is no occupant, and
then nothing more. (The details of the refusals: notes/assumptions/24.md. The last tag of a CLEAR with no reply context is a free value:
notes/assumptions/4.md.) -/
def Obligations.OccupantsLeaveSegments : Prop :=
  (∀ (u : Upsets) (f : Stored) (d : Frame) (s : State), s.hands u 242 f d = true → d.subtype = 2 →
    ∃ t, exec (.haulClearReceive u) s = .next t
      ∧ (d.payload.length < 2 ∨ s.segmentOf (halfAt d.payload 0) = none → t.quiet = s.quiet)
      ∧ ∀ i, 2 ≤ d.payload.length → s.segmentOf (halfAt d.payload 0) = some i →
        ((s.segment i).occupants.any (·.truck == d.tag) = true →
          vacated i d.tag (refreshedBy s f d s.hlc.trucks) (s.taken u f) s t)
        ∧ ((s.segment i).occupants.any (·.truck == d.tag) = false →
          t.quiet = (s.setTrucks (refreshedBy s f d s.hlc.trucks)).quiet))
  ∧ ∀ (u : Upsets) (f : Stored) (d : Frame) (s : State), s.commands u f d (.releaseOccupant []) 2 = true →
    let args := commandArgs d.payload
    (s.segmentOf (arg args 1) = none →
      Answers (exec (.releaseOccupant u) s) d ⟨.badIndex, 0⟩ [] fun t => t.quiet = s.quiet)
    ∧ ∀ i, s.segmentOf (arg args 1) = some i →
      ((s.segment i).occupants.any (·.truck == arg args 2) = true →
        Answers (exec (.releaseOccupant u) s) d okStatus [] fun t => vacated i (arg args 2) s.hlc.trucks (s.taken u f) s t)
      ∧ ((s.segment i).occupants.any (·.truck == arg args 2) = false →
        Answers (exec (.releaseOccupant u) s) d ⟨.badValue, 2⟩ [] fun t => t.quiet = s.quiet)

/-- BEACON_RECEIVE, LEASE_EXPIRY, WAIT_EXPIRY and TRUCK_ENTRY_EXPIRY: what each leaves of the truck and its places. A BEACON is answered
EXIT for each GAS_CLOSED segment that its truck occupies, renews its leases and ends its OVERDUE condition, and promotion runs when a
waiting entry expires. (The last tag of a
BEACON with no reply context is a free value: notes/assumptions/4.md.) -/
def Obligations.TrucksAreHeardAndExpire : Prop :=
  (∀ (u : Upsets) (f : Stored) (d : Frame) (s : State), s.hands u 242 f d = true → d.subtype = 0 →
    ∃ t, exec (.beaconReceive u) s = .next t
      ∧ (s.hlc.trucks.any (·.id == d.tag) = false → t.quiet = s.quiet)
      ∧ (s.hlc.trucks.any (·.id == d.tag) = true →
          let renewed : HaulControl := { s.hlc with
            trucks := refreshedBy s f d s.hlc.trucks
            segments := vmap (fun g => { g with
              occupants := g.occupants.map fun o =>
                if o.truck = d.tag then { o with leaseEnd := s.after (g.lease * 1000), overdue := false } else o
              waiting := g.waiting.map fun w => if w.truck = d.tag then { w with time := s.time } else w })
              s.hlc.segments }
          (s.truckOverdue d.tag = false → t.quiet = (s.setHlc renewed).quiet)
          ∧ (s.truckOverdue d.tag = true → t.still = s.still
            ∧ (s.calm → t.hlc = renewed)
            ∧ (∀ i, ∀ o ∈ (t.segment i).occupants, o.truck = d.tag →
                o.leaseEnd = s.after ((s.segment i).lease * 1000) ∧ o.overdue = false)
            ∧ (∀ y ∈ t.hlc.trucks, y.id = d.tag →
                ∃ z ∈ renewed.trucks, y = { z with held := y.held, waiting := y.waiting })
            ∧ (s.alarmsSound = true → t.alc.holdsActive .haulOverdue d.tag = false)))
      ∧ (s.truckOverdue d.tag = false ∨ s.calm → ∀ i : Fin 16, (s.segment i).occupants.any (·.truck == d.tag) = true →
          (s.segment i).state = .gasClosed → ∀ y, t.truck? d.tag = some y →
            y.via = d.src ∧ told 18 (s.taken u f) t y 3 6 (s.segment i).id 0))
  ∧ (∀ (i : Fin 16) (truck : Nat) (s : State),
      (∃ o ∈ (s.segment i).occupants, o.truck = truck ∧ o.overdue = false ∧ s.reached o.leaseEnd = true) →
      ∃ t, exec (.leaseExpiry i truck) s = .next t ∧ t.still = s.still
        ∧ (∃ o ∈ (t.segment i).occupants, o.truck = truck ∧ o.overdue = true)
        ∧ (s.truckOverdue truck = false → s.alc.alarms.length < 32 → t.alc.holdsActive .haulOverdue truck = true)
        ∧ (s.truckOverdue truck = true → t.quiet = (s.setSegment i { s.segment i with
            occupants := (s.segment i).occupants.map fun o => if o.truck = truck then { o with overdue := true } else o }).quiet))
  ∧ (∀ (i : Fin 16) (truck : Nat) (s : State),
      (∃ w ∈ (s.segment i).waiting, w.truck = truck ∧ (s.segment i).waitLimit * 1000 ≤ (s.time - w.time).toNat) →
      ∃ t, exec (.waitExpiry i truck) s = .next t ∧ { t with hlc := s.hlc }.quiet = s.quiet ∧ t.still = s.still
        ∧ (∀ w ∈ (t.segment i).waiting, w.truck ≠ truck) ∧ (∀ j, j ≠ i → t.segment j = s.segment j)
        ∧ (let left := { s.segment i with waiting := (s.segment i).waiting.filter (·.truck != truck) }
          promotes s s t i left
            ∧ (waitsOnce (s.segment i) → t.hlc.trucks = unlessSilent s truck (trucksPromoted s left
                (editTruck s.hlc.trucks truck fun y => { y with waiting := none }))))
        ∧ ∀ x ∈ t.hlc.trucks, x.id = truck → x.waiting = none)
  ∧ ∀ (truck : Nat) (s : State), s.mge.owed = [] →
      exec (.truckEntryExpiry truck) s = .next (s.setTrucks (unlessSilent s truck s.hlc.trucks))

/-- R151: the segments of zone `n` have been closed for gas: the trucks that waited are told HOLD, GAS, and the occupants EXIT. -/
def Sys2Proof.Machine.clearedForGas (n : Nat) (x s t : State) : Prop :=
  let shut (g : Segment) : Bool := g.id != 0 && g.zone == n && g.state != .gasClosed
  let most := (s.hlc.segments.toList.map fun g => if shut g then g.waiting.length + g.occupants.length else 0).sum + 4
  ∀ i : Fin 16,
    let g := s.segment i
    shut g = true → closedForGas g (t.segment i)
      ∧ (∀ w ∈ g.waiting, ∀ y, s.truck? w.truck = some y → told most x t y 2 6 g.id 0)
      ∧ ∀ o ∈ g.occupants, ∀ y, s.truck? o.truck = some y → told most x t y 3 6 g.id 0

/-- OPEN_SEGMENT and CLOSE_SEGMENT: the segment's state and its command close flag; closing dismisses the waiting list with HOLD,
CLOSED, opening is refused while the zone is in TRIP or locked down, and otherwise promotion runs. And the closure for gas, as
FORCE_ZONE_TRIP brings it about: HOLD, GAS to the trucks that waited, EXIT to the occupants. (The details of the refusals:
notes/assumptions/24.md.) -/
def Obligations.SegmentsOpenAndCloseByCommand : Prop :=
  ∀ (u : Upsets) (f : Stored) (d : Frame) (s : State),
    let id := arg (commandArgs d.payload) 1
    (s.commands u f d (.openSegment []) 1 = true →
      (s.segmentOf id = none → Answers (exec (.openSegment u) s) d ⟨.badIndex, 0⟩ [] fun t => t.quiet = s.quiet)
      ∧ ∀ i, s.segmentOf id = some i →
        let g := s.segment i
        let shut := s.combined g.zone = .trip ∨ s.lockedDown g.zone = true
        (shut → Answers (exec (.openSegment u) s) d ⟨.stillActive, 0⟩ [] fun t => t.quiet = s.quiet)
        ∧ (¬shut → g.state = .opened → Answers (exec (.openSegment u) s) d okStatus [] fun t => t.quiet = s.quiet)
        ∧ (¬shut → g.state ≠ .opened → Answers (exec (.openSegment u) s) d okStatus [] fun t =>
            { t with hlc := s.hlc }.quiet = s.quiet ∧ t.still = s.still
              ∧ (t.segment i).state = .opened ∧ (t.segment i).commandClose = false ∧ (∀ j, j ≠ i → t.segment j = s.segment j)
              ∧ promotes (s.taken u f) s t i { g with state := .opened, commandClose := false }
              ∧ (waitsOnce g →
                t.hlc.trucks = trucksPromoted s { g with state := .opened, commandClose := false } s.hlc.trucks)
              ∧ (g.waiting = [] → t.quiet = (s.setSegment i { g with state := .opened, commandClose := false }).quiet)))
    ∧ (s.commands u f d (.closeSegment []) 1 = true →
      (s.segmentOf id = none → Answers (exec (.closeSegment u) s) d ⟨.badIndex, 0⟩ [] fun t => t.quiet = s.quiet)
      ∧ ∀ i, s.segmentOf id = some i →
        let g := s.segment i
        Answers (exec (.closeSegment u) s) d okStatus [] fun t =>
          { t with hlc := s.hlc }.quiet = s.quiet ∧ t.hlc.roster = s.hlc.roster
            ∧ t.segment i = { g with
                commandClose := true, state := if g.state = .opened then .closed else g.state, waiting := [] }
            ∧ (∀ j, j ≠ i → t.segment j = s.segment j)
            ∧ (∀ w ∈ g.waiting, ∀ x ∈ t.hlc.trucks, x.id = w.truck → x.waiting = none)
            ∧ (g.waiting = [] → t.hlc.trucks = s.hlc.trucks)
            ∧ ∀ w ∈ g.waiting, ∀ y, s.truck? w.truck = some y → told g.waiting.length (s.taken u f) t y 2 5 g.id 0)
    ∧ (s.commands u f d (.forceZoneTrip []) 1 = true → ∀ z : Fin 31, id = z.val + 1 → (s.zone z).force = false →
      (s.zone z).combined ≠ .trip → s.roadsSound = true → s.outputsSound = true → s.banksSound = true →
      s.alc.alarms.length < 32 →
        Answers (exec (.forceZoneTrip u) s) d okStatus [] fun t => clearedForGas id (s.taken u f) s t)

/-- No two trucks hold one segment head-on, no segment is over its capacity, no two share an id, and the truck table agrees with the
segments: every step keeps it. -/
def Obligations.RoadsAreNeverHeadOn : Prop :=
  ∀ s t : State, s.roadsSound = true → Sys2Proof.Machine.step s = .next t → t.roadsSound = true

/-! ## Chapter 9: refuge alarms and the alarm list -/

/-- The ANNOUNCE of an entry to a control station (R167). -/
def Sys2Proof.Machine.announceOf (s : State) (e : Alarm) (dst : Addr) (zone : ZState) : Frame where
  cls := .alarm
  level := 14
  hop := 127
  wrapped := false
  dst := dst
  src := ⟨s.node, 240⟩
  zone := e.zone
  subtype := 0
  tag := e.serial
  payload := bytes16 e.serial ++ [byte (e.kind.ctorIdx + 1), byte e.severity,
      byte ((if e.active then 0 else 1) + 2 * zone.ctorIdx), byte e.zone]
    ++ bytes16 e.source ++ bytes32 e.raised.toNat ++ [byte s.node]

/-- R175: the control stations: the addresses of the NODE table that are not 0. -/
def Sys2Proof.Machine.controlStations (s : State) : List Addr :=
  [s.mge.table.station1, s.mge.table.station2].filter (· ≠ ⟨0, 0⟩)

/-- R166: the pacer may announce. -/
def Sys2Proof.Machine.pacerAble (s : State) : Prop := s.alc.island = false ∧ controlStations s ≠ []

/-- R167, R21, R32: no port takes a frame for this address: it is of another node and no trunk port is UP, or it is a drop of this one
whose spur port is not ACTIVE or does not hold it present. -/
def Sys2Proof.Machine.unreachable (s : State) (a : Addr) : Bool :=
  if a.node ≠ s.node then !s.up .east && !s.up .west
  else !([0, 240, 241, 242, 243, 255].contains a.station) && match s.dropOfStation? a.station with
    | some (n, d) => !(s.active n && (s.spur n).drops[d].present)
    | none => false

/-- R166, R167: the pacer announces entry `e` to every control station, and starts its gap. The entry's DUE is cleared, and is set again
when the entry is unacknowledged and one of the sends failed: FBF had no block for the frame, or no port would take it. A frame that can
go waits on its queue, where that has room: for another node on the trunk queue by which R20 enters, for a drop of this node on its
spur's, for station 240 of this node on LOCAL. (With one free block and two control stations, whether the second frame finds a block
turns on what the first pushes out.) -/
def Sys2Proof.Machine.announces (s : State) (e : Alarm) (t : State) : Prop :=
  let stations := controlStations s
  let failed : Bool := s.fbf.free.isEmpty || stations.any (unreachable s)
  let sent (a : Addr) (q : Fin 9) (target : Target) : Prop := s.room q 2 = true →
    ∃ g ∈ (t.queue q).frames, g.target = target ∧ ∃ zone : ZState, g.body = .drift (announceOf s e a zone)
      ∧ (∀ z : Fin 31, e.zone = z.val + 1 → zone = s.alc.zoneCopy[z]) ∧ (e.zone = 0 → zone = .clear)
  s.fbf.free = [] ∨ stations.length ≤ s.fbf.free.length →
    t.quiet = (s.setAlc { s.alc with
        gapDue := some (s.after 50)
        alarms := s.alc.alarms.map fun x => if x.serial = e.serial then { e with due := failed && !e.acked } else x }).quiet
    ∧ ∀ a ∈ stations, s.fbf.free ≠ [] →
        (∀ p, a.node ≠ s.node → s.entryPort a.node = some p → sent a (trunkQueue p) .allDrops)
        ∧ (a.node = s.node → a.station = 240 → sent a localQueue .allDrops)
        ∧ ∀ n d, a.node = s.node → unreachable s a = false → 1 ≤ a.station → a.station ≤ 239 →
            s.dropOfStation? a.station = some (n, d) → sent a (spurQueue n) (.drop d)

/-- R166, R168: a repeat timer has expired, and the node stands as in `x`. A pacer in its gap, or one that may not announce, lets the
entries that are DUE wait; one that is IDLE and may announces the first of them. -/
def Sys2Proof.Machine.offered (x t : State) : Prop :=
  match x.alc.alarms.find? (·.due) with
  | none => t.quiet = x.quiet
  | some e => (x.alc.gapDue ≠ none ∨ ¬pacerAble x → t.quiet = x.quiet) ∧ (x.alc.gapDue = none → pacerAble x → announces x e t)

/-- GAP_TIMER_EXPIRY, FAST_REPEAT_EXPIRY and SLOW_REPEAT_EXPIRY: the pacer announces the first DUE entry and waits 50 ms more, or
rests; the repeat timers make the armed entries of their severities DUE and run on from where they stood, and an IDLE pacer that may
announces at once. (That an IDLE pacer which may announce leaves no entry DUE, whatever command is the cause: R166's first row, is one of
the invariants of TablesAndOutputsStaySound.) -/
def Obligations.PacerAnnouncesInOrder : Prop :=
  ∀ s : State, (s.alc.alarms.map (·.serial)).Nodup →
    (s.expired s.alc.gapDue = true → (∀ e ∈ s.alc.alarms, e.due = false) ∨ ¬pacerAble s →
      ∃ t, exec .gapTimerExpiry s = .next t ∧ t.quiet = (s.setAlc { s.alc with gapDue := none }).quiet)
    ∧ (∀ before e after, s.expired s.alc.gapDue = true → pacerAble s → s.alc.alarms = before ++ e :: after → e.due = true →
        (∀ x ∈ before, x.due = false) → ∃ t, exec .gapTimerExpiry s = .next t ∧ announces s e t)
    ∧ (s.reached s.alc.fastDue = true → ∃ t, exec .fastRepeatExpiry s = .next t ∧ offered (s.setAlc { s.alc with
          fastDue := s.alc.fastDue + 10000
          alarms := s.alc.alarms.map fun e => { e with due := e.due || (e.again && decide (12 ≤ e.severity)) } }) t)
    ∧ (s.reached s.alc.slowDue = true → ∃ t, exec .slowRepeatExpiry s = .next t ∧ offered (s.setAlc { s.alc with
          slowDue := s.alc.slowDue + 60000
          alarms := s.alc.alarms.map fun e => { e with due := e.due || (e.again && decide (e.severity ≤ 11)) } }) t)

/-- R158: the serial that a new entry is given: the counter increased by 1, and by 1 again while the value is a listed entry's. -/
def Sys2Proof.Machine.givenSerial (counter : Nat) (listed : List Alarm) (serial : Nat) : Prop :=
  ∃ n, serial = (counter + 1 + n) % 65536 ∧ (∀ e ∈ listed, e.serial ≠ serial)
    ∧ ∀ m < n, ∃ e ∈ listed, e.serial = (counter + 1 + m) % 65536

/-- R160: of the entries of `l`, the one of lowest severity, and among equals the one given its serial last. -/
def Sys2Proof.Machine.lowestOf (l : List Alarm) (v : Alarm) : Prop :=
  v ∈ l ∧ ∀ x ∈ l, x = v ∨ v.severity < x.severity ∨ (v.severity = x.severity ∧ x.born < v.born)

/-- R159, R160, R172: the list `l` and the serial counter that a raise makes of the list of `s`, and whether ALARM_OVERFLOW is raised. An
entry found is raised again. A new one is inserted; in a full list it takes the place of the lowest acknowledged entry, or else of the
lowest entry, where that is below it, with ALARM_OVERFLOW; or else it is not listed, with ALARM_OVERFLOW. The list stays in its order
(R158). -/
def Sys2Proof.Machine.listAfter (r : Raise) (s : State) (l : List Alarm) (serial : Nat) (overflow : Bool) : Prop :=
  let a := s.alc
  let fresh : Alarm := {
    serial, kind := r.kind, source := r.source, zone := r.zone, drop := r.drop, action := r.action, severity := r.severity
    active := true, acked := false, raised := s.time, again := true, due := true, born := a.born }
  let inserted (kept : List Alarm) : Prop := givenSerial a.serial kept serial ∧ l.Perm (fresh :: kept)
  let acked := a.alarms.filter (·.acked)
  (l.Pairwise fun x y => y.severity < x.severity ∨ (x.severity = y.severity ∧ x.born < y.born))
    ∧ match a.alarms.find? fun e => e.kind == r.kind && e.source == r.source with
      | some e =>
        l.Perm ({ e with
            severity := max e.severity r.severity, active := true, raised := if e.active then e.raised else s.time
            again := e.again || e.acked, acked := false, due := true
            action := if r.kind = .posted then r.action else e.action } :: a.alarms.erase e)
          ∧ serial = a.serial ∧ overflow = false
      | none =>
        if a.alarms.length < 32 then inserted a.alarms ∧ overflow = false
        else (∀ v, lowestOf acked v → inserted (a.alarms.erase v) ∧ overflow = false)
          ∧ (∀ v, acked = [] → lowestOf a.alarms v → v.severity < r.severity → inserted (a.alarms.erase v) ∧ overflow = true)
          ∧ (acked = [] → (∀ x ∈ a.alarms, r.severity ≤ x.severity) → l = a.alarms ∧ serial = a.serial ∧ overflow = true)

/-- R163 to R166: the list of `s` has become `l`, and `t` is the node once the outputs follow and the pacer has been offered the entries
that are DUE. No other entry comes or goes, and none changes but in its DUE, which an IDLE pacer clears by announcing. (A RELAY_FAULT
entry may clear on the way, when the severity flags move its relay, R116.) Where no entry of either list drives anything, the node is that
of `s` with the new list, but for output slots that a PENDING drop takes, and the pacer's announcement is all that goes out. -/
def Sys2Proof.Machine.listStands (s : State) (l : List Alarm) (t : State) : Prop :=
  let waits := s.alc.gapDue ≠ none ∨ ¬pacerAble s
  t.still = s.still
    ∧ (∀ e ∈ l, e.kind ≠ .relayFault → ∃ due, { e with due } ∈ t.alc.alarms ∧ (waits → due = e.due))
    ∧ (∀ x ∈ t.alc.alarms, ∃ e ∈ l, { x with due := e.due, active := e.active } = e ∧ (e.kind ≠ .relayFault → x.active = e.active))
    ∧ (waits → t.alc.gapDue = s.alc.gapDue)
    ∧ (¬waits → (∃ e ∈ l, e.due = true ∧ e.kind ≠ .relayFault) → t.alc.gapDue = some (s.after 50))
    ∧ (s.outputsSound = true → s.alc.island = false → (∀ e ∈ s.alc.alarms ++ l, s.alc.actions[e.action].mode = .announce) →
        ∃ y, y.quiet = ({ s with
              spurs := t.spurs, alc := { s.alc with alarms := l, serial := t.alc.serial, born := t.alc.born } } : State).quiet
          ∧ y.fbf = s.fbf ∧ y.egs = s.egs ∧ offered y t)

/-- R159, R160: a condition has been raised. -/
def Sys2Proof.Machine.raised (r : Raise) (s t : State) : Prop :=
  ∃ l serial overflow, listAfter r s l serial overflow ∧ listStands s l t ∧ t.alc.serial = serial
    ∧ t.mge.has .alarmOverflow = (s.mge.has .alarmOverflow || overflow)

/-- R161, R169: entry `e` of the list has become `new`, or has left the list; the serials given stay. -/
def Sys2Proof.Machine.replaced (e : Alarm) (new : Option Alarm) (s t : State) : Prop :=
  let l := match new with
    | some x => s.alc.alarms.map fun y => if y = e then x else y
    | none => s.alc.alarms.erase e
  listStands s l t ∧ t.alc.serial = s.alc.serial ∧ t.mge.has .alarmOverflow = s.mge.has .alarmOverflow

/-- R161: the condition of entry `e` has cleared: an acknowledged entry leaves the list, any other stays with DUE set. An entry that is
CLEARED already does not change. -/
def Sys2Proof.Machine.clearedOnList (e : Alarm) (s t : State) : Prop :=
  (e.active = false → t = s)
    ∧ (e.active = true → replaced e (if e.acked then none else some { e with active := false, due := true }) s t)

/-- R158: the drop that the source id of a posted alarm names, by its drop id (R23). -/
def Sys2Proof.Machine.postedDrop (source : Nat) : Option DropRef :=
  (List.finRange 6).findSome? fun n => (List.finRange 16).findSome? fun d =>
    if source = 256 + 16 * n.val + d.val then some ⟨n, d⟩ else none

/-- R158 to R161: a block's raise of a condition, by the severity and action of its kind's action table entry, and a clear. And ACK_ALARM,
POST_ALARM and CLEAR_POSTED, by the entry they name. (CLEAR_POSTED's detail: notes/assumptions/24.md.) -/
def Obligations.AlarmsAreListedClearedAndAcknowledged : Prop :=
  ∀ s : State, s.alarmsSound = true → s.alc.alarms.length ≤ 32 →
    (∀ (k : AlarmKind) (source zone : Nat) (drop : Option DropRef) (a : Fin 16), a.val = k.ctorIdx + 1 →
      raised ⟨k, source, zone, drop, a, s.alc.actions[a].severity⟩ s (s.raiseAlarm k source zone drop)
      ∧ match s.alc.alarms.find? fun e => e.kind == k && e.source == source with
        | some e => clearedOnList e s (s.clearAlarm k source)
        | none => s.clearAlarm k source = s)
    ∧ ∀ (u : Upsets) (f : Stored) (d : Frame),
      let args := commandArgs d.payload
      let entry := s.alc.alarms.find? (·.serial == arg args 1)
      let x := s.taken u f
      (s.commands u f d (.ackAlarm []) 1 = true → match entry with
        | none => Answers (exec (.ackAlarm u) s) d ⟨.badIndex, 0⟩ [] fun t => t.quiet = s.quiet
        | some e => Answers (exec (.ackAlarm u) s) d okStatus [] fun t =>
          (e.acked = true → t.quiet = s.quiet)
            ∧ (e.acked = false →
              replaced e (if e.active then some { e with acked := true, again := false, due := false } else none) x t))
      ∧ (s.commands u f d (.postAlarm []) 3 = true →
        let source := arg args 2
        (16 ≤ arg args 3 → Answers (exec (.postAlarm u) s) d ⟨.badValue, 3⟩ [] fun t => t.quiet = s.quiet)
        ∧ ∀ action : Fin 16, arg args 3 = action.val → ∃ l serial overflow,
            listAfter ⟨.posted, source, 0, postedDrop source, action, min 7 (max 1 (arg args 1))⟩ x l serial overflow
            ∧ Answers (exec (.postAlarm u) s) d okStatus
                (match l.find? fun e => e.kind == .posted && e.source == source with
                  | some e => [1, e.serial]
                  | none => [0, 0])
                fun t => listStands x l t ∧ t.alc.serial = serial
                  ∧ t.mge.has .alarmOverflow = (s.mge.has .alarmOverflow || overflow))
      ∧ (s.commands u f d (.clearPosted []) 1 = true → match entry with
        | none => Answers (exec (.clearPosted u) s) d ⟨.badIndex, 0⟩ [] fun t => t.quiet = s.quiet
        | some e =>
          (e.kind ≠ .posted → Answers (exec (.clearPosted u) s) d ⟨.badValue, 1⟩ [] fun t => t.quiet = s.quiet)
          ∧ (e.kind = .posted → Answers (exec (.clearPosted u) s) d okStatus [] fun t => t.still = s.still ∧ clearedOnList e x t))

/-! ## Chapter 10: management and the stored configuration -/

/-- R174: the statuses of a reply, in their codes. -/
def Sys2Proof.Machine.statuses : List Status :=
  [.ok, .notAuthorised, .badTable, .badIndex, .badValue, .readOnly, .liveSet, .stillActive, .busy, .tooLong]

/-- R174 and section 11.2: the REPLY to a request: back to its source with its tag and level, the status, the detail, and the data as
16-bit fields. -/
def Sys2Proof.Machine.replyOf (s : State) (d : Frame) (r : Refused) (data : List Nat) : Frame where
  cls := .mgmt
  level := d.level
  hop := 127
  wrapped := false
  dst := d.src
  src := ⟨s.node, 0⟩
  zone := 0
  subtype := 1
  tag := d.tag
  payload := [byte (statuses.idxOf r.status), byte r.detail] ++ data.flatMap fun v => [byte (v / 256), byte v]

/-- R174: MGE sends the REPLY to a request, and `t` follows. To another node it enters the trunk by R20, and to a station of this one it
is delivered by R46; where FBF refuses it or no trunk port is UP it is lost. -/
def Sys2Proof.Machine.replied (s : State) (d : Frame) (r : Refused) (data : List Nat) (restart : Bool) (t : State) : Prop :=
  let x := replyOf s d r data
  let n := blocksFor (12 + x.payload.length)
  let f : Stored := {
    body := .drift x, level := d.level, blocks := s.fbf.free.take n, origin := .manage restart, arrival := none, ctx := none
    target := .allDrops, entry := none }
  t.quiet = s.quiet
    ∧ (s.fbf.admits .mgmt n = false → t = s.raise .queueDiscard)
    ∧ (s.fbf.admits .mgmt n = true →
      (d.src.node = s.node → landsAt s f x t)
      ∧ (d.src.node ≠ s.node → s.up .east = false → s.up .west = false → t.egs = s.egs)
      ∧ ∀ p, d.src.node ≠ s.node → s.entryPort d.src.node = some p → s.room (trunkQueue p) n = true → joined (trunkQueue p) f s t)

/-- The request rows' common gate: the source of a request is checked first, and one that is no control station is answered
NOT_AUTHORISED and changes nothing, whatever it asks. And the REPLY with which any request is answered: its header, its payload and the
way it goes. (That 0.0 is no control station: notes/assumptions/30.md.) -/
def Obligations.RequestsNeedAuthorityAndAreAnswered : Prop :=
  (∀ (d : Frame) (r : Refused) (data : List Nat) (restart : Bool) (s : State), replied s d r data restart (s.reply d r data restart))
  ∧ ∀ (u : Upsets) (f : Stored) (d : Frame) (s : State), s.hands u 0 f d = true → d.cls = .mgmt →
    d.subtype = 0 → (∃ a ∈ [s.mge.table.station1, s.mge.table.station2], a ≠ ⟨0, 0⟩) →
    (d.src = ⟨0, 0⟩ ∨ (d.src ≠ s.mge.table.station1 ∧ d.src ≠ s.mge.table.station2)) →
    Answers (exec (localRow d u) s) d ⟨.notAuthorised, 0⟩ [] fun t => t.quiet = s.quiet

/-- A 32-bit value in two fields, the high word first. -/
def Sys2Proof.Machine.halves (n : Nat) : List Nat := [n / 65536, n % 65536]

/-- R11, R43, R84: the TRUNKS, SPUR_STATUS, BANKS and QUEUES views, field by field. (A drop map of 0 while no descriptor is valid is THE
MODEL'S CHOICE: notes/assumptions/46.md.) -/
def Sys2Proof.Machine.portViewsRead (s : State) : Prop :=
  (∀ p : TPort,
      let x := s.trunk p
      s.readEntry 32 (lossSource p - 1) =
        [[LinkState.down, .training, .identWait, .up, .mismatch].idxOf x.state,
          [LinkCause.noCause, .signalLost, .silent, .lockLost, .identTimeout, .ringMismatch, .nodeClash].idxOf x.cause, flag x.latch]
        ++ halves x.entered.toNat ++ [flag x.nb.valid, x.nb.ring, x.nb.node, flag x.nb.wrap, flag x.nb.island]
        ++ halves x.nb.lastHello.toNat)
  ∧ (∀ n : Fin 6,
      let x := s.spur n
      let v := s.readEntry 33 n.val
      v.length = 58
        ∧ v.take 7 = [[AttachState.empty, .detected, .interrogating, .powerDenied, .powered, .active, .faulted].idxOf x.state,
            [SpurFault.noFault, .noDescriptor, .noReady, .overcurrent].idxOf x.fault] ++ halves x.entered.toNat
          ++ (match x.descriptor with
            | some k => [x.granted, k.power, k.map.toNat]
            | none => [x.granted, 0, 0])
        ∧ fieldAt v 8 < 65536 ∧ fieldAt v 9 < 65536
        ∧ (∀ d : Fin 16, (fieldAt v 8).testBit d.val = (x.drops[d].present && x.drops[d].kind == .attention)
            ∧ (fieldAt v 9).testBit d.val = (x.drops[d].present && x.drops[d].kind == .foreign)
            ∧ (v.drop (10 + 3 * d.val)).take 3 = [x.drops[d].desired.toNat, x.drops[d].confirmed.toNat,
                [OutState.noOutput, .settled, .pending, .inFlight, .unconfirmed].idxOf x.drops[d].out])
        ∧ fieldAt v 10 = [PollState.idle, .query, .request].idxOf x.poll.state)
  ∧ (∀ k : Fin 4,
      let x := s.bank k
      s.readEntry 34 k.val = [[BankState.inService, .retiring, .retired, .restoring].idxOf x.state, flag x.retirePending,
        [RetireCause.noCause, .uncorrectable, .correctedLimit, .command].idxOf x.cause, x.corrected, x.uncorrectable,
        (s.fbf.held.filter (bankOf · == k)).length, (s.fbf.free.filter (bankOf · == k)).length])
  ∧ s.readEntry 34 4 = [64 * (s.fbf.banks.toList.filter (·.state != .retired)).length, s.fbf.free.length, s.fbf.reserve]
  ∧ ∀ q : Fin 9,
      let x := s.queue q
      s.readEntry 35 q.val = [s.mge.table.queueLimits[q], occupancy x.frames, x.frames.length,
        (match x.frames with
          | [] => 16
          | f :: _ => f.level), x.pushOuts, x.refusals, x.stale]

/-- R137: the code of a port in a circuit record. -/
def Sys2Proof.Machine.sideCode : PortId → Nat
  | .trunk .east => 0
  | .trunk .west => 1
  | .spur n => n.val + 2

/-- R137, R156: the CIRCUITS, TRUCKS and OCCUPANCY views, field by field. -/
def Sys2Proof.Machine.callAndHaulViewsRead (s : State) : Prop :=
  (∀ i < 32, s.readEntry 36 i = match s.csw.circuits[i]? with
      | none => List.replicate 16 0
      | some c => [c.id, 256 * c.partyA.node + c.partyA.station, 256 * c.partyB.node + c.partyB.station, sideCode c.sideA,
          sideCode c.sideB, c.width, [Precedence.normal, .priority, .zone, .emergency].idxOf c.prec, c.zone,
          (match c.sideA, c.sideB with
            | .spur _, _ => 0
            | .trunk _, .trunk _ => 1
            | .trunk _, .spur _ => 2), [CallState.pending, .alerting, .connected].idxOf c.state]
          ++ halves c.deadline.toNat ++ halves c.admitted.toNat ++ halves c.connect.toNat)
  ∧ (let ports : List PortId := [.trunk .east, .trunk .west, .spur 0, .spur 1, .spur 2, .spur 3, .spur 4, .spur 5]
     s.readEntry 36 32 = ports.map (fun p => (s.csw.circuits.map fun c =>
          (if c.sideA = p then c.width else 0) + if c.sideB = p then c.width else 0).sum) ++ s.mge.table.voice.toList)
  ∧ (∀ i < 24, s.readEntry 37 i = match s.hlc.trucks[i]? with
      | none => List.replicate 9 0
      | some x => [x.id] ++ halves x.heard.toNat ++ [256 * x.via.node + x.via.station, (match x.page with
          | some k => k.val
          | none => 8), x.tag, x.held[0]?.getD 0, x.held[1]?.getD 0, x.waiting.getD 0])
  ∧ ∀ i : Fin 16,
      let g := s.segment i
      let v := s.readEntry 38 i.val
      v.length = 56
        ∧ v.take 4 = [[SegState.opened, .closed, .gasClosed].idxOf g.state, flag g.commandClose, g.occupants.length, g.waiting.length]
        ∧ (∀ j < 4, (v.drop (4 + 5 * j)).take 5 = match g.occupants[j]? with
            | none => [0, 0, 0, 0, 0]
            | some o => [o.truck, [Direction.inbye, .outbye].idxOf o.dir, flag o.overdue] ++ halves o.leaseEnd.toNat)
        ∧ ∀ w < 8, (v.drop (24 + 4 * w)).take 4 = match g.waiting[w]? with
            | none => [0, 0, 0, 0]
            | some e => [e.truck, [Direction.inbye, .outbye].idxOf e.dir] ++ halves e.time.toNat

/-- R158: the alarm kinds, in their numbers from 1. -/
def Sys2Proof.Machine.alarmKinds : List AlarmKind :=
  [.gasTrip, .gasWarn, .channelFault, .refugePanic, .refugeDoor, .refugeAir, .refugeOccupied, .callEmergency, .haulOverdue,
    .outputUnconfirmed, .relayFault, .bankFault, .trunkLoss, .spurFault, .posted]

/-- R173, R181: the ALARMS, EVENTS and TIME views, field by field. -/
def Sys2Proof.Machine.alarmAndEventViewsRead (s : State) : Prop :=
  (∀ i < 32, s.readEntry 39 i = match s.alc.alarms[i]? with
      | none => List.replicate 13 0
      | some e => [e.serial, alarmKinds.idxOf e.kind + 1, e.source, e.zone, e.severity, if e.active then 0 else 1, flag e.acked]
          ++ halves e.raised.toNat ++ [flag e.again, flag e.due, e.action.val, (match e.drop with
            | none => 0
            | some r => 256 * (r.spur.val + 1) + r.drop.val)])
  ∧ (let v := s.readEntry 39 32
     v.length = 6 ∧ v.take 4 = [flag s.alc.island, s.alc.alarms.length, s.alc.serial, if s.alc.gapDue = none then 0 else 1]
        ∧ fieldAt v 5 < 65536 ∧ fieldAt v 6 < 65536 ∧ (fieldAt v 6).testBit 0 = false
        ∧ ∀ z : Fin 31, (65536 * fieldAt v 5 + fieldAt v 6).testBit (z.val + 1) = decide (s.alc.lockdown[z] ≠ 0))
  ∧ s.readEntry 40 0 = [s.mge.events.toNat, s.mge.table.enables.toNat,
      [LoadState.loading, .complete, .stopped, .absent].idxOf s.cfl.load, s.cfl.applied, 256 * s.cfl.stopTable + s.cfl.stopIndex,
      [StopCause.noCause, .unknownTable, .badIndex, .badLength, .refused, .noAnswer].idxOf s.cfl.stopCause,
      if s.cfl.saving = none then 0 else 1, [SaveResult.noResult, .done, .failed].idxOf s.cfl.lastSave]
  ∧ s.readEntry 41 0 = halves s.time.toNat

/-- R89, R106, R114, R58: the fields of the CHANNELS, ZONES, RELAYS and rule set tables that the node keeps itself. -/
def Sys2Proof.Machine.keptFieldsRead (s : State) : Prop :=
  (∀ c : Fin 48,
      let x := s.channel c
      (s.readEntry 7 c.val).drop 18 =
        [[ChState.starting, .normal, .warn, .trip, .fault, .inhibited].idxOf x.state,
          [ChState.starting, .normal, .warn, .trip, .fault, .inhibited].idxOf x.computed,
          flag x.causes.level + 2 * flag x.causes.rise + 4 * flag x.causes.overRange + 8 * flag x.causes.fail,
          flag x.flags.overRange + 2 * flag x.flags.underRange + 4 * flag x.flags.indefinite, flag x.latched, x.lastRaw, x.calibrated,
          x.smoothed] ++ halves x.lastValid.toNat ++ [x.markValue] ++ halves x.markTime.toNat ++ halves x.inhibitEnd.toNat)
  ∧ (∀ z : Fin 31,
      let x := s.zone z
      let v := s.readEntry 8 (z.val + 1)
      v.length = 42
        ∧ (v.drop 3).take 7 = [[ZState.clear, .alert, .trip].idxOf x.localState, [ZState.clear, .alert, .trip].idxOf x.combined,
            flag x.force, flag x.evaluated,
            (s.channels.toList.filter fun c => c.cfg.enabled && c.cfg.zone == z.val + 1 && c.state != .inhibited).length]
          ++ halves x.lastSent.toNat
        ∧ ∀ j < 8, (v.drop (10 + 4 * j)).take 4 = match x.reporters[j]? with
            | none => [0, 0, 0, 0]
            | some r => [r.node, [RepState.clear, .alert, .trip, .stale].idxOf r.state] ++ halves r.time.toNat)
  ∧ (∀ k : Fin 4, (s.readEntry 9 k.val).drop 4 = [flag (s.relay k).energised, flag (s.relay k).closed, flag (s.relay k).fault])
  ∧ s.readEntry 4 10 = [if s.cls.live = .a then 1 else 0, s.cls.generation]
  ∧ s.readEntry 5 10 = [if s.cls.live = .b then 1 else 0, s.cls.generation]

/-- READ: a run of entries within the table and of at most 238 bytes is answered with the entries' fields as they stand; every other READ
is refused with the status its fault gives it, and nothing changes. READ_TRUNKS: the reply carries the entries with the latches as they
stood, and then each port that was read takes 1 when it is UP and 0 when it is not; the latch of a port not read stays. One that names no
entry, or an entry beyond the two, is refused, and no latch changes. What an entry of a view reads as, and of a table in the fields that
the node keeps itself, is said field by field. (The details of the refusals: notes/assumptions/24.md. A drop map of 0 while no descriptor is
valid is THE MODEL'S CHOICE: notes/assumptions/46.md.) -/
def Obligations.ReadAnswersWithEntries : Prop :=
  (∀ (u : Upsets) (f : Stored) (d : Frame) (s : State), s.asks u f d (.read []) = true →
      let table := byteAt d.payload 1
      let first := byteAt d.payload 2
      let count := byteAt d.payload 3
      let refused (r : Refused) : Prop := Answers (exec (.read u) s) d r [] fun t => t.quiet = s.quiet
      if d.payload.length < 4 then refused ⟨.badValue, 0⟩
      else match tableRange table with
        | none => refused ⟨.badTable, 0⟩
        | some (lo, hi) =>
          if count = 0 then refused ⟨.badValue, 0⟩
          else if first < lo ∨ hi < first + count - 1 then refused ⟨.badIndex, 0⟩
          else if 238 < ((List.range count).map fun i => 2 * entryFields table (first + i)).sum then refused ⟨.tooLong, 0⟩
          else Answers (exec (.read u) s) d okStatus
            (((List.range count).map (first + ·)).flatMap ((s.taken u f).readEntry table)) fun t => t.quiet = s.quiet)
  ∧ (∀ (u : Upsets) (f : Stored) (d : Frame) (first count : Nat) (s : State), s.asks u f d (.readTrunks []) = true →
      byteAt d.payload 2 = first → byteAt d.payload 3 = count →
      let refused (r : Refused) : Prop := Answers (exec (.readTrunks u) s) d r [] fun t => t.quiet = s.quiet
      if d.payload.length < 4 ∨ count = 0 then refused ⟨.badValue, 0⟩
      else if 2 < first + count then refused ⟨.badIndex, 0⟩
      else Answers (exec (.readTrunks u) s) d okStatus (s.readRun 32 first count) fun t =>
        t.quiet = ({ s with
          tpe := if first = 0 then { s.tpe with latch := s.up .east } else s.tpe
          tpw := if first + count = 2 then { s.tpw with latch := s.up .west } else s.tpw } : State).quiet)
  ∧ ∀ s : State, portViewsRead s ∧ callAndHaulViewsRead s ∧ alarmAndEventViewsRead s ∧ keptFieldsRead s

/-- Field `n` of an entry has a value that the table's rule accepts (R178, R45, R51, R52, R58, R63, R86, R106, R114, R140, R138, R162, R43),
the fields before it having one. (The field that a relation between two fields counts against, where the rule does not say, is
THE MODEL'S CHOICE: notes/assumptions/25.md.) -/
def Sys2Proof.Machine.fieldFits (s : State) (table index : Nat) (fs : List Nat) (n : Nat) : Prop :=
  let f := fieldAt fs
  match table with
  | 1 =>
    (n = 2 → f 2 ≤ 62) ∧ (n = 3 ∨ n = 4 → f n = 0 ∨ (256 ≤ f n ∧ f n / 256 ≤ 62)) ∧ (n = 5 → f 5 ≤ 40 ∧ s.grantedWatts ≤ f 5)
      ∧ (n = 6 → 1 ≤ f 6) ∧ (9 ≤ n → n ≤ 17 → 4 ≤ f n ∧ f n ≤ 128)
      ∧ (18 ≤ n → n ≤ 25 → 1 ≤ f n ∧ f n ≤ if n < 20 then 24 else 8)
      ∧ (n = 18 → s.reserved (.trunk .east) ≤ f 18) ∧ (n = 19 → s.reserved (.trunk .west) ≤ f 19)
      ∧ ∀ k : Fin 6, n = 20 + k.val → s.reserved (.spur k) ≤ f n
  | 2 =>
    (n = 1 → f 1 ≤ 239)
      ∧ (n = 2 → f 1 ≠ 0 → f 1 ≤ f 2 ∧ f 2 ≤ f 1 + 15 ∧ f 2 ≤ 239 ∧ ∀ i : Fin 6, i.val ≠ index → s.cls.windows[i].base ≠ 0 →
          f 2 < s.cls.windows[i].base ∨ s.cls.windows[i].limit < f 1)
  | 3 => n = 1 → f 1 ≤ 1
  | 6 =>
    (n = 1 → f 1 ≤ 64) ∧ (n = 2 → f 2 ≤ 1) ∧ (n = 3 → f 2 = 1 → f 3 % 2 = 0 ∧ f 3 + 2 ≤ f 1)
      ∧ ∀ j < 4,
        let offset := f (5 + 3 * j)
        let width := f (7 + 3 * j)
        (n = 5 + 3 * j → width = 1 ∨ width = 2 → offset + width ≤ f 1 ∧ (width = 2 → offset % 2 = 0)
            ∧ (f 2 = 1 → offset + width ≤ f 3 ∨ f 3 + 2 ≤ offset)
            ∧ ∀ i < j, f (7 + 3 * i) ≠ 0 → offset + width ≤ f (5 + 3 * i) ∨ f (5 + 3 * i) + f (7 + 3 * i) ≤ offset)
          ∧ (n = 6 + 3 * j → width ≠ 0 → f n ≤ 7) ∧ (n = 7 + 3 * j → width ≤ 2)
  | 7 =>
    (n ∈ [1, 16, 17, 18] → f n ≤ 1) ∧ (n = 3 ∨ n = 9 → f n ≤ 4) ∧ (n = 4 → f 4 ≤ 31 ∧ (f 1 = 1 → f 4 ≠ 0))
      ∧ (n = 5 → f 5 ≤ 1 ∧ (f 5 = 1 → f 3 = 2 ∨ f 3 = 4)) ∧ (n = 6 → f 6 ≤ 16383) ∧ (n ∈ [7, 8, 14] → 1 ≤ f n)
      ∧ (n = 11 → if f 5 = 0 then f 10 < f 11 else f 11 < f 10) ∧ (n = 12 → f 12 ≤ 4095)
  | 8 => (n = 1 ∨ n = 2 → f n ≤ 1) ∧ (n = 3 → f 3 ≤ 2)
  | 9 => (n = 1 → f 1 ≤ 3) ∧ (n = 2 → 1 ≤ f 2 ∧ f 2 ≤ 15) ∧ (n = 3 → f 1 = 1 → f 3 ≠ 0 ∨ f 4 ≠ 0) ∧ (n = 4 → f 4 % 2 = 0)
  | 10 =>
    (n = 1 → f 1 ≤ 255 ∧ ∀ g : Fin 16, g.val ≠ index → f 1 ≠ 0 → (s.segment g).id ≠ f 1)
      ∧ (n = 2 → f 1 ≠ 0 → 1 ≤ f 2 ∧ f 2 ≤ 31) ∧ (n = 3 → 1 ≤ f 3 ∧ f 3 ≤ 4) ∧ (n = 6 → f 6 ≤ 1)
  | 11 =>
    (n = 1 → f 1 ≤ 4095 ∧ ∀ i : Fin 64, i.val ≠ index → f 1 ≠ 0 → (s.hlc.roster[i]).truck ≠ f 1) ∧ (n = 2 ∨ n = 3 → f n ≤ 1)
  | 12 => (n = 1 → f 1 ≤ 3) ∧ (n = 3 → f 3 ≤ 15) ∧ (n = 4 → f 4 ≤ 2)
  | 13 => (n = 2 → f 2 ≤ 3) ∧ (3 ≤ n → n ≤ 18 → f n ≤ 31)
  | _ =>
    if index < 8 then
      (n = 1 ∨ n = 8 → f n ≤ 1) ∧ (n ∈ [2, 13, 15, 17] → f n ≤ 63) ∧ (n = 3 ∨ n = 11 → f n ≤ 15) ∧ (n = 7 → f 7 ≤ 255)
        ∧ (n = 9 → 1 ≤ f 9 ∧ f 9 ≤ 6) ∧ (n = 10 → ∀ i : Fin 7, i.val = f 9 → f 10 < #v[1, 3, 1, 2, 5, 4, 1][i])
        ∧ (n = 12 → f 12 / 256 ≤ 63) ∧ (n = 14 ∨ n = 16 → f n ≤ 2) ∧ (n = 18 → f 18 ≤ 2 ∧ (f 16 = 0 → f 18 = 0))
        ∧ (n = 19 → f 19 ≤ 8) ∧ (n = 20 → f 20 ≤ 2 ∧ (f 19 = 8 → f 20 = 0))
    else if index = 8 then 1 ≤ n → n ≤ 8 → f n ≤ 15
    else ∀ i < 6, (n = 2 * i + 1 → f n ≤ 1) ∧ (n = 2 * i + 2 → f n / 256 ≤ 63)

/-- R177 step 7, R86, R140: the detail of BUSY, for fields that the live state does not let stand: an enabled channel keeps its source and
its zone, a segment with occupants its id, zone and capacity, and one that is waited for its id. (BUSY's detail for a segment:
notes/assumptions/24.md.) -/
def Sys2Proof.Machine.heldBusy (s : State) (table index : Nat) (fs : List Nat) : Option Nat :=
  let f := fieldAt fs
  match table with
  | 7 => (List.finRange 48).findSome? fun c =>
    let cfg := (s.channel c).cfg
    if c.val ≠ index ∨ cfg.enabled = false then none
    else if cfg.source ≠ Addr.ofCode (f 2) then some 2
    else if cfg.zone ≠ f 4 then some 4
    else none
  | 10 => (List.finRange 16).findSome? fun i =>
    let g := s.segment i
    if i.val = index ∧ ((g.occupants ≠ [] ∧ (f 1 ≠ g.id ∨ f 2 ≠ g.zone ∨ f 3 ≠ g.capacity)) ∨ (g.waiting ≠ [] ∧ f 1 ≠ g.id)) then some 0
    else none
  | _ => none

/-- The fields of an entry are accepted. -/
def Sys2Proof.Machine.fits (s : State) (table index : Nat) (fs : List Nat) : Prop :=
  (∀ n, fieldFits s table index fs n) ∧ heldBusy s table index fs = none

/-- The fields of an entry that a WRITE sets, as they read back after it (R177): durations and severities clamped. The checksum offset of a
page that is written without a checksum is ignored, and reads as it did (notes/assumptions/26.md). -/
def Sys2Proof.Machine.stored (s : State) (table index : Nat) (fs : List Nat) : List Nat :=
  let f := fieldAt fs
  match table with
  | 2 => if f 1 = 0 then [0, 0] else fs
  | 6 => [f 1, f 2, if f 2 = 1 then f 3 else fieldAt (s.readEntry 6 index) 3] ++ fs.drop 4
  | 7 => fs.take 12 ++ [min 60 (f 13), f 14, min 255 (max 1 (f 15)), f 16, f 17, f 18]
  | 8 => fs.take 3
  | 9 => fs.take 4
  | 10 => [f 1, f 2, f 3, min 600 (max 30 (f 4)), min 900 (max 30 (f 5)), f 6]
  | 12 => [f 1, min 15 (max 8 (f 2)), f 3, f 4]
  | 13 => min 5000 (max 100 (f 1)) :: fs.drop 1
  | _ => fs

/-- The fields of an entry that a WRITE of its table sets (all but a reply page's partial sum and the fields that the node keeps). -/
def Sys2Proof.Machine.State.entry (s : State) (table index : Nat) : List Nat :=
  let fs := s.readEntry table index
  match table with
  | 6 => fs.take 3 ++ fs.drop 4
  | 7 => fs.take 18
  | 8 => fs.take 3
  | 9 => fs.take 4
  | _ => fs

/-- A WRITE request for an entry of a configuration table whose rule set, if it is one, is not live; with its fields. -/
def Sys2Proof.Machine.State.writes (s : State) (u : Upsets) (f : Stored) (d : Frame) (table index : Nat) (fs : List Nat) : Prop :=
  s.asks u f d (writeRow table []) = true ∧ d.payload.length % 2 = 1 ∧ 3 ≤ d.payload.length ∧ byteAt d.payload 1 = table
    ∧ byteAt d.payload 2 = index ∧ fieldsOf (d.payload.drop 3) = fs ∧ 1 ≤ table ∧ table ≤ 13

/-- R178, R27, R166: beside the NODE table itself, a write that raises the budget starts a re-examination, and the pacer announces when it
has become able to. -/
def Sys2Proof.Machine.nodeWritten (budget : Nat) (s t : State) : Prop :=
  let sum := ((List.finRange 6).map fun m => classWatts (s.spur m).granted).sum
  let again := grantedAgain s budget sum (List.finRange 6)
  let x := t.mge.table
  { t with spurs := s.spurs, alc := s.alc, mge := { t.mge with table := s.mge.table } }.quiet = s.quiet
    ∧ (∀ m, if s.mge.table.budget < budget then s.powerSound = true → t.spur m = if m ∈ again then poweredAgain s m else s.spur m
        else t.spur m = s.spur m)
    ∧ (if s.alc.gapDue = none ∧ s.alc.island = false ∧ (x.station1 ≠ ⟨0, 0⟩ ∨ x.station2 ≠ ⟨0, 0⟩) ∧ ∃ e ∈ s.alc.alarms, e.due = true then
        t.alc.gapDue = some (s.after 50) ∧ { t.alc with gapDue := none, alarms := [] } = { s.alc with gapDue := none, alarms := [] }
          ∧ t.alc.alarms.map (fun e => { e with due := false }) = s.alc.alarms.map fun e => { e with due := false }
      else t.alc = s.alc)

/-- R87, R88, R104: a write that enables or disables a channel sets its dynamic fields afresh, with the times of now, and clears the
CHANNEL_FAULT condition of one disabled; a write to a channel that stays enabled brings the values above a new full scale down to it; each
hands the channel to its zone. A write to a channel that stays disabled does nothing more. (`w` is the node once the write has been taken.)
-/
def Sys2Proof.Machine.channelWritten (c : Fin 48) (s w t : State) : Prop :=
  let x := s.channel c
  let cfg := (t.channel c).cfg
  let x' : Channel :=
    if x.cfg.enabled ≠ cfg.enabled then {
      cfg, state := .starting, computed := .starting, causes := ⟨false, false, false, false⟩, flags := ⟨false, false, false⟩
      latched := false, lastRaw := 0, calibrated := 0, smoothed := 0, lastValid := s.time, markValue := 0, markTime := s.time
      inhibitEnd := 0 }
    else if cfg.enabled then { x with
      cfg, calibrated := min x.calibrated cfg.fullScale, smoothed := min x.smoothed cfg.fullScale
      markValue := min x.markValue cfg.fullScale }
    else { x with cfg }
  let cleared := x.cfg.enabled = true ∧ cfg.enabled = false ∧ x.causes.fail = true
  let y := w.setChannel c x'
  let y' := if cleared then y.clearAlarm .channelFault c.val else y
  t.base = y.base
    ∧ (x.cfg.enabled = false → cfg.enabled = false → t.quiet = y.quiet)
    ∧ (x.cfg.enabled = true ∨ cfg.enabled = true → alarmStands 0 y y' ∧ handedOn cfg.zone y' t)
    ∧ (cleared → s.alarmsSound = true → t.alc.holdsActive .channelFault c.val = false)

/-- R106: a change of enabled or monitored evaluates the zone, with the reporters removed on disabling and a report sent on enabling; a
change of policy lets HLC make its reopening test, and no other block is told; a write that changes none of the three changes nothing.
(Both at once: notes/assumptions/41.md.) -/
def Sys2Proof.Machine.zoneWritten (z : Fin 31) (s t : State) : Prop :=
  let x := s.zone z
  let x' := t.zone z
  let y := s.setZone z { x with
    enabled := x'.enabled, monitored := x'.monitored, policy := x'.policy
    reporters := if x.enabled = true ∧ x'.enabled = false then [] else x.reporters }
  let enabling : Bool := !x.enabled && x'.enabled
  let told : Bool := x.policy != x'.policy
  let changed := x.enabled ≠ x'.enabled ∨ x.monitored ≠ x'.monitored
  (¬changed → told = false → t.quiet = s.quiet)
    ∧ (¬changed → told = true → { t with hlc := s.hlc }.quiet = y.quiet ∧ segmentsFollow (z.val + 1) x.combined false true y t)
    ∧ (changed → ∃ y', y'.quiet = y.quiet ∧ zoneEvaluatedWith enabling told z y' t)
    ∧ (enabling = true → told = false → x' = { x with enabled := true, monitored := x'.monitored, lastSent := s.time } →
        ∀ p, s.entryPort 63 = some p → s.node ≠ 63 → s.banksSound = true → s.fbf.admits .air 1 = true →
          s.room (trunkQueue p) 1 = true → ∃ g ∈ (t.queue (trunkQueue p)).frames, g.origin = .zoneReport ∧ g.body = .drift {
            cls := .air, level := 11, hop := 127, wrapped := false, dst := ⟨63, 241⟩, src := ⟨s.node, 241⟩, zone := z.val + 1
            subtype := 1, tag := z.val + 1, payload := [0, byte ([ZState.clear, .alert, .trip].idxOf x.localState)] })

/-- R115: what a relay's function commands. -/
def Sys2Proof.Machine.commanded (s : State) (r : Relay) : Bool :=
  match r.func with
  | .noFunction => false
  | .zonePermit => (List.finRange 31).all fun z =>
      !r.mask.getLsbD (z.val + 1) || ((s.zone z).evaluated && (s.zone z).combined != .trip)
  | .islandLamp => s.alc.island
  | .severityAtLeast => (List.finRange 15).any fun n => n.val + 1 == r.severity && s.alc.severityFlags[n]

/-- R116, R117: a written relay is recomputed. A changed command starts the mismatch timer or, when the feedback agrees with it, stops the
timer and ends the fault. -/
def Sys2Proof.Machine.relayWritten (k : Fin 4) (s t : State) : Prop :=
  let x := s.relay k
  let r := { x with func := (t.relay k).func, severity := (t.relay k).severity, mask := (t.relay k).mask }
  let command := commanded s r
  (command = x.energised → t.quiet = (s.setRelay k r).quiet)
    ∧ (command ≠ x.energised → command ≠ x.closed →
        t.quiet = (s.setRelay k { r with energised := command, mismatchDue := some (s.after 200) }).quiet)
    ∧ (command ≠ x.energised → command = x.closed → x.fault = false →
        t.quiet = (s.setRelay k { r with energised := command, mismatchDue := none }).quiet)
    ∧ (command ≠ x.energised → command = x.closed → x.fault = true → s.alarmsSound = true →
        t.still = (s.setRelay k r).still ∧ t.alc.holdsActive .relayFault (k.val + 1) = false
          ∧ (r.func ≠ .severityAtLeast ∨ s.outputsSound = true →
              t.relay k = { r with energised := command, mismatchDue := none, fault := false }))

/-- R140, R151, R152, R145: an accepted SEGMENTS write. A changed id sets the state to CLOSED and command-close to 0. Then, for a used
entry, the closure test and the reopening test against the zone as it stands, and promotion. -/
def Sys2Proof.Machine.segmentWritten (i : Fin 16) (s t : State) : Prop :=
  let g := s.segment i
  let g' := t.segment i
  let h : Segment := { g with
    id := g'.id, zone := g'.zone, capacity := g'.capacity, lease := g'.lease, waitLimit := g'.waitLimit, autoReopen := g'.autoReopen
    state := if g'.id = g.id then g.state else .closed
    commandClose := if g'.id = g.id then g.commandClose else false }
  let shut := s.combined g'.zone = .trip ∨ s.lockedDown g'.zone = true
  let state : SegState :=
    if h.state = .gasClosed ∧ h.autoReopen = true ∧ reopens (s.combined h.zone) (s.policy h.zone) = true then
      if h.commandClose then .closed else .opened
    else h.state
  { t with hlc := s.hlc }.quiet = s.quiet ∧ t.hlc.roster = s.hlc.roster ∧ (∀ j, j ≠ i → t.segment j = s.segment j)
    ∧ (g'.id = 0 → t.quiet = (s.setSegment i h).quiet)
    ∧ (g'.id ≠ 0 → shut → closedForGas h g')
    ∧ (g'.id ≠ 0 → ¬shut → g'.state = state ∧ g'.commandClose = h.commandClose
        ∧ (g.waiting = [] → t.quiet = (s.setSegment i { h with state }).quiet)
        ∧ (waitsOnce g → g' = promoted s { h with state } ∧ t.hlc.trucks = trucksPromoted s { h with state } s.hlc.trucks))

/-- R163: every drop's desired mask is the union of the output masks of the listed entries that drive outputs and cover it. -/
def Sys2Proof.Machine.masksAsListed (t : State) : Prop :=
  ∀ (n : Fin 6) (d : Fin 16) (bit : Fin 4),
    let r := (t.spur n).drops[d]
    r.desired.getLsbD bit.val = t.alc.alarms.any fun e =>
      let a := t.alc.actions[e.action]
      a.mask.getLsbD bit.val && (t.alc.island || a.mode != .announce) && match a.scope with
        | .sourceDrop => e.drop == some ⟨n, d⟩
        | .zone => e.zone != 0 && e.zone == r.zone
        | .all => true

/-- R164, R165: the lockdown counts, the severity flags and the SEVERITY_AT_LEAST relays, each of a severity from 1 to 15 (R114), are what
the list gives. -/
def Sys2Proof.Machine.countsAsListed (t : State) : Prop :=
  (∀ z : Fin 31, t.alc.lockdown[z] =
      (t.alc.alarms.filter fun e => e.zone == z.val + 1 && t.alc.actions[e.action].mode == .lockdown).length)
    ∧ (∀ n : Fin 15, t.alc.severityFlags[n] = t.alc.alarms.any fun e => !e.acked && n.val + 1 ≤ e.severity
        && (t.alc.actions[e.action].mode == .announceTrip || t.alc.actions[e.action].mode == .lockdown))
    ∧ ∀ k, (t.relay k).func = .severityAtLeast → 1 ≤ (t.relay k).severity → (t.relay k).severity ≤ 15 →
        (t.relay k).energised = commanded t (t.relay k)

/-- R162 to R165: an accepted ACTIONS write: the masks, the counts and the flags are what the list gives by the table as it now stands. HLC
closes the used segments of a zone whose count rises from 0, and tests those of a zone whose count falls to 0 for reopening. -/
def Sys2Proof.Machine.actionWritten (s t : State) : Prop :=
  { t with alc := { t.alc with actions := s.alc.actions } }.still = s.still ∧ masksAsListed t
    ∧ (s.alarmsSound = true → countsAsListed t
      ∧ ∀ (i : Fin 16) (z : Fin 31),
        let g := s.segment i
        let g' := t.segment i
        g.id ≠ 0 → g.zone = z.val + 1 →
          if s.alc.lockdown[z] = 0 ∧ t.alc.lockdown[z] ≠ 0 then closedForGas g g'
          else if s.alc.lockdown[z] ≠ 0 ∧ t.alc.lockdown[z] = 0 ∧ g.state = .gasClosed ∧ g.autoReopen = true
              ∧ reopens (s.zone z).combined (s.zone z).policy = true then
            g'.state = (if g.commandClose then .closed else .opened) ∧ g'.commandClose = g.commandClose
          else g'.state = g.state ∧ g'.commandClose = g.commandClose)

/-- R43, R163: an accepted SPURS write: the output scopes follow the drops' zones, and a slot that is held, with its running timer, stays.
-/
def Sys2Proof.Machine.spurWritten (n : Fin 6) (s t : State) : Prop :=
  { t with spurs := s.spurs }.quiet = s.quiet ∧ masksAsListed t
    ∧ (∀ m, (t.spur m).still = ({ s.spur m with
        confirmMs := if m = n then (t.spur n).confirmMs else (s.spur m).confirmMs
        retryLimit := if m = n then (t.spur n).retryLimit else (s.spur m).retryLimit
        drops := vmapIdx (fun d (r : Drop) => { r with zone := if m = n then (t.spur n).drops[d].zone else r.zone })
          (s.spur m).drops } : SpurPort).still)
    ∧ ∀ m (k : Fin 4) (x : Slot), (s.spur m).slots[k] = some x → (t.spur m).slots[k] = some x

/-- What an accepted WRITE does beside storing its fields, by table. A write of a window, a direction, a rule set or a reply page, and one
of the roster, does nothing more. -/
def Sys2Proof.Machine.writeActs (table index : Nat) (fs : List Nat) (s w t : State) : Prop :=
  match table with
  | 1 => nodeWritten (fieldAt fs 5) s t
  | 7 => ∀ c : Fin 48, c.val = index → channelWritten c s w t
  | 8 => ∀ z : Fin 31, z.val + 1 = index → zoneWritten z s t
  | 9 => ∀ k : Fin 4, k.val = index → relayWritten k s t
  | 10 => ∀ i : Fin 16, i.val = index → segmentWritten i s t
  | 11 => { t with hlc := { t.hlc with roster := s.hlc.roster } }.quiet = s.quiet
  | 12 => actionWritten s t
  | 13 => ∀ n : Fin 6, n.val = index → spurWritten n s t
  | _ => { t with cls := s.cls }.quiet = s.quiet ∧ t.cls.live = s.cls.live ∧ t.cls.generation = s.cls.generation
      ∧ t.cls.waiting = s.cls.waiting

/-- An accepted WRITE: the entry's fields read back as they were stored, no other entry of any configuration table changes, and the live
state follows as the table's rule says. `w` is `s` once the write has been taken (for a record of the load, `s` itself). -/
def Sys2Proof.Machine.written (table index : Nat) (fs : List Nat) (s w t : State) : Prop :=
  t.entry table index = stored s table index fs
    ∧ (∀ table' index' lo hi, tableRange table' = some (lo, hi) → table' ≤ 13 → lo ≤ index' → index' ≤ hi →
        (table', index') ≠ (table, index) → t.entry table' index' = s.entry table' index')
    ∧ t.time = s.time ∧ t.cfl = s.cfl ∧ t.tpe = s.tpe ∧ t.tpw = s.tpw ∧ t.broadcasts = s.broadcasts
    ∧ t.csw.circuits.map (·.id) = s.csw.circuits.map (·.id) ∧ writeActs table index fs s w t

/-- The thirteen WRITE rows: fields that the table's rule accepts are answered OK and read back as they were stored, no other entry of any
configuration table changes, and the live state follows as the table's rule says. A field that it does not accept is refused with BAD_VALUE,
the first such field being the detail; fields that it accepts, and that the live state does not let stand, with BUSY; and nothing changes.
(What an ignored field reads as: notes/assumptions/26.md. Which field is bad where the rule does not say is THE MODEL'S CHOICE:
notes/assumptions/25.md; BUSY's detail for a segment: notes/assumptions/24.md.) -/
def Obligations.WritesReplaceTheirEntry : Prop :=
  ∀ (u : Upsets) (f : Stored) (d : Frame) (table index : Nat) (fs : List Nat) (s : State), s.writes u f d table index fs →
    (∀ lo hi, tableRange table = some (lo, hi) → lo ≤ index ∧ index ≤ hi) → fs.length = entryFields table index →
    ¬((table = 4 ∨ table = 5) ∧ index = 10) → ¬(table = 4 ∧ s.cls.live = .a) → ¬(table = 5 ∧ s.cls.live = .b) →
    let refused (r : Refused) : Prop := Answers (exec (writeRow table u) s) d r [] fun t => t.quiet = s.quiet
    (fits s table index fs → Answers (exec (writeRow table u) s) d okStatus [] (written table index fs s (s.taken u f)))
    ∧ (∀ n, ¬fieldFits s table index fs n → (∀ m < n, fieldFits s table index fs m) → refused ⟨.badValue, n⟩)
    ∧ ((∀ n, fieldFits s table index fs n) → ∀ n, heldBusy s table index fs = some n → refused ⟨.busy, n⟩)

/-- R177's checks before the field values, in their order, for a WRITE of any table id (WRITE_OTHER among them): each refusal has its
status, and nothing changes. -/
def Obligations.WriteChecksComeInOrder : Prop :=
  ∀ (u : Upsets) (f : Stored) (d : Frame) (s : State), byteAt d.payload 0 = 1 →
    let table := byteAt d.payload 1
    let index := byteAt d.payload 2
    let refused (r : Refused) : Prop := Answers (exec (writeRow table u) s) d r [] fun t => t.quiet = s.quiet
    s.asks u f d (writeRow table []) = true →
      if d.payload.length < 3 ∨ d.payload.length % 2 = 0 then refused ⟨.badValue, 0⟩
      else match tableRange table with
        | none => refused ⟨.badTable, 0⟩
        | some (lo, hi) =>
          if 32 ≤ table ∨ ((table = 4 ∨ table = 5) ∧ index = 10) then refused ⟨.readOnly, 0⟩
          else if index < lo ∨ hi < index then refused ⟨.badIndex, 0⟩
          else if (table = 4 ∧ s.cls.live = .a) ∨ (table = 5 ∧ s.cls.live = .b) then refused ⟨.liveSet, 0⟩
          else d.payload.length ≠ 3 + 2 * entryFields table index → refused ⟨.badValue, 0⟩

/-- R180: the event kinds, in the order of their bits. -/
def Sys2Proof.Machine.eventKinds : List EventKind :=
  [.loadError, .rulesetExchanged, .noRoute, .malformed, .queueDiscard, .filterUnmatched, .powerDenied, .pollError, .zoneReportOverflow,
    .alarmOverflow, .trunkChange, .spurChange, .circuitRefused, .saveDone, .bankChange, .sampleRejected]

/-- R180: the NOTICE of a kind to a control station, with the status word. -/
def Sys2Proof.Machine.noticeOf (s : State) (e : EventKind) (word : Half) (dst : Addr) : Frame where
  cls := .mgmt
  level := 9
  hop := 127
  wrapped := false
  dst := dst
  src := ⟨s.node, 0⟩
  zone := 0
  subtype := 2
  tag := eventKinds.idxOf e
  payload := bytes16 word.toNat ++ bytes32 s.time.toNat

/-- R180: `t` is the end of a step that goes on from `s` by raising kind `e`, and by nothing else. The cell is set. Where it was set
already, or is not enabled, nothing is sent; otherwise one NOTICE goes to each control station address that is not 0. (That it goes at the
end of the step: notes/assumptions/8.md.) -/
def Sys2Proof.Machine.raisedIn (e : EventKind) (s t : State) : Prop :=
  let bit := eventKinds.idxOf e
  let word := s.mge.events ||| BitVec.ofNat 16 (2 ^ bit)
  let stations := [s.mge.table.station1, s.mge.table.station2].filter (· ≠ ⟨0, 0⟩)
  let count (p : TPort) : Nat := (stations.filter fun a => s.entryPort a.node == some p).length
  s.mge.owed = [] →
    (s.mge.events.getLsbD bit = true ∨ s.mge.table.enables.getLsbD bit = false → t = s.setMge { s.mge with events := word })
    ∧ (s.mge.events.getLsbD bit = false → s.mge.table.enables.getLsbD bit = true →
        t.quiet = s.quiet ∧ t.mge.events.getLsbD bit = true
          ∧ ((∀ a ∈ stations, a.node ≠ s.node) → s.up .east = true ∨ s.up .west = true →
              (∀ p, s.room (trunkQueue p) 2 = true) → s.fbf.admits .mgmt 2 = true →
              (∀ p, (t.queue (trunkQueue p)).frames.length = (s.queue (trunkQueue p)).frames.length + count p)
                ∧ ∀ a ∈ stations, ∀ p, s.entryPort a.node = some p →
                  ∃ g ∈ (t.queue (trunkQueue p)).frames, g.body = .drift (noticeOf s e word a)))

/-- R183: the tables that SAVE writes, with their first and last indices. -/
def Sys2Proof.Machine.savedTables : List (Nat × Nat × Nat) :=
  [(1, 0, 0), (2, 0, 5), (3, 0, 63), (4, 0, 9), (5, 0, 9), (6, 0, 7), (7, 0, 47), (8, 1, 31), (9, 0, 3), (10, 0, 15), (11, 0, 63),
    (12, 0, 15), (13, 0, 5)]

/-- R183, R189, R62: the copy that SAVE writes: one record for each entry, in ascending table id and index, with its fields as they read,
the high byte first; the live set as RULESET_A and the standby set as RULESET_B; then the end marker. (The fields that a WRITE ignores:
notes/assumptions/38.md.) -/
def Sys2Proof.Machine.savedAsRuled (s : State) : Prop :=
  let source (table : Nat) : Nat := if s.cls.live = .b ∧ (table = 4 ∨ table = 5) then 9 - table else table
  let record (table index : Nat) : List Byte :=
    let fs := s.readEntry (source table) index
    [byte table, byte index, byte fs.length] ++ fs.flatMap fun f => [byte (f / 256), byte f]
  s.saveImage = savedTables.flatMap (fun x => (List.range (x.2.2 + 1 - x.2.1)).flatMap fun i => record x.1 (x.2.1 + i)) ++ [0xFF]
    ∧ s.saveImage.length = 9291

/-- A raise of an event sets its cell, and sends its NOTICE when the cell was clear and is enabled. CLEAR_EVENTS, SAVE and SAVE_END: once
what the request's taking has raised has its notices, the cells of the mask are cleared and the reply carries what is left; a SAVE takes
the tables of the moment, and its end leaves in the memory what it had acknowledged. (What comes before the clear: notes/assumptions/8.md.
When the bytes reach the memory, and its growth: notes/assumptions/28.md. The detail of BUSY: notes/assumptions/24.md.) -/
def Obligations.EventsClearAndSavesEnd : Prop :=
  (∀ (u : Upsets) (f : Stored) (d : Frame) (s : State), s.commands u f d (.clearEvents []) 1 = true →
    let x := (s.taken u f).settle
    let events := x.mge.events &&& ~~~(BitVec.ofNat 16 (arg (commandArgs d.payload) 1))
    Answers (exec (.clearEvents u) s) d okStatus [events.toNat] fun t =>
      t = x.setMge { x.mge with events } ∧ t.quiet = s.quiet)
  ∧ (∀ (u : Upsets) (f : Stored) (d : Frame) (s : State), s.commands u f d (.save []) 0 = true →
    (s.cfl.saving ≠ none → Answers (exec (.save u) s) d ⟨.busy, 0⟩ [] fun t => t.quiet = s.quiet)
    ∧ (s.cfl.saving = none → Answers (exec (.save u) s) d okStatus [] fun t =>
        t.quiet = (s.setCfl { s.cfl with saving := some s.saveImage }).quiet ∧ savedAsRuled s))
  ∧ (∀ (image : List Byte) (stopped : Option Nat) (s : State), s.cfl.saving = some image →
    let x := s.setCfl { s.cfl with
      saving := none
      lastSave := if stopped = none ∧ s.cfl.memory ≠ none then .done else .failed
      memory := s.cfl.memory.map fun m =>
        let written := image.take (stopped.getD image.length)
        written ++ m.drop written.length }
    ∃ t, exec (.saveEnd stopped) s = .next t ∧ t.mge.has .saveDone = true ∧ t.quiet = x.quiet ∧ raisedIn .saveDone x t)
  ∧ ∀ (e : EventKind) (s : State), raisedIn e s (s.raise e).settle

/-- A trunk transmitter that has given up a frame from the buffer (R83). -/
def Sys2Proof.Machine.cutTrunk : Option TrunkTx → Option TrunkTx
  | some (.stored _) => none
  | x => x

/-- A spur transmitter that has given up a frame from the buffer (R83). -/
def Sys2Proof.Machine.cutLine : Option SpurTx → Option SpurTx
  | some (.stored _) => none
  | x => x

/-- A node whose zones a RESTART does not move: no channel in use, every zone CLEAR and evaluated, all that the alarm list drives as it
should stand, no NOTICE to send. -/
def Sys2Proof.Machine.State.airAtRest (s : State) : Prop :=
  (∀ c, (s.channel c).cfg.enabled = false)
    ∧ (∀ z,
        let x := s.zone z
        x = { x with
          monitored := false, force := false, evaluated := true, localState := .clear, combined := .clear, reporters := []
          gasWarn := false })
    ∧ s.outputsSound = true ∧ s.mge.owed = [] ∧ s.mge.table.enables = 0

/-- A node in which a RESTART has nothing to send: its zones at rest, no circuit, the pacer waiting. -/
def Sys2Proof.Machine.State.atRest (s : State) : Prop :=
  s.airAtRest ∧ s.csw.circuits = [] ∧ (s.alc.gapDue ≠ none ∨ s.alc.island = true)

/-- R42, R83: a spur port's record at RESTART: its poll abandoned with no hold-off, a frame from the buffer cut off, its slots freed, sent
masks and retry counts 0, and each drop that was IN_FLIGHT compared; then the free slots are taken. -/
def Sys2Proof.Machine.restartedPort (x : SpurPort) : SpurPort :=
  ({ x with
      poll := { x.poll with state := .idle, due := none, waiting := false, sending := false, holdOff := none }
      tx := cutLine x.tx, slots := Vector.replicate 4 none, setsWaiting := []
      drops := vmap (fun r =>
        let r := { r with sent := 0, retry := 0, mismatched := false }
        if r.out = .inFlight then comparedDrop r else r) x.drops } : SpurPort).takeSlots

/-- R105, R107, R113: the zones of `which` have been evaluated, once each, with the channels of `t`, and no other zone has changed. The record
of each stands as its channels and reporters give it, ALC's copy follows its transition, and its gas conditions are raised and cleared
(raised where the list has room for all that these evaluations raise); its segments follow its transition where no action closes segments
(the others' alarms then move none). -/
def Sys2Proof.Machine.zonesEvaluated (which : Fin 31 → Bool) (s t : State) : Prop :=
  let now (z : Fin 31) : ZState := zoneLocal { s with channels := t.channels } z
  let combined (z : Fin 31) : ZState := zoneCombined (s.zone z) (now z)
  let warns (z : Fin 31) : Bool := now z == .alert && t.channels.toList.any fun x =>
    x.cfg.enabled && x.cfg.zone == z.val + 1 && x.state != .inhibited && countsAs x == .warn
  let raises (z : Fin 31) : Bool :=
    which z && (((s.zone z).localState != .trip && now z == .trip) || (!(s.zone z).gasWarn && warns z))
  let room := s.alc.alarms.length + (List.finRange 31).countP raises ≤ 32
  ∀ z : Fin 31,
    let x := s.zone z
    let moved := x.combined ≠ combined z
    (which z = false → t.zone z = x ∧ t.alc.zoneCopy[z] = s.alc.zoneCopy[z])
    ∧ (which z = true →
        t.zone z = { x with
          localState := now z, combined := combined z, evaluated := true
          lastSent := if x.localState ≠ now z ∧ x.enabled = true then s.time else x.lastSent
          gasWarn := warns z }
        ∧ t.alc.zoneCopy[z] = (if moved then combined z else s.alc.zoneCopy[z])
        ∧ (room → x.localState ≠ .trip → now z = .trip → t.alc.holdsActive .gasTrip (z.val + 1) = true)
        ∧ (s.alarmsSound = true → x.localState = .trip → now z ≠ .trip → t.alc.holdsActive .gasTrip (z.val + 1) = false)
        ∧ (room → x.gasWarn = false → warns z = true → t.alc.holdsActive .gasWarn (z.val + 1) = true)
        ∧ (s.alarmsSound = true → x.gasWarn = true → warns z = false → t.alc.holdsActive .gasWarn (z.val + 1) = false)
        ∧ (s.outputsSound = true → (∀ a : Fin 16, (s.alc.actions[a]).mode ≠ .lockdown) →
            segmentsFollow (z.val + 1) (combined z) (decide moved) false s t))

/-- R136, R129, R90: what a RESTART does with the circuits and the conditions that end by it. Every circuit is released with cause RESTART
(11) toward both its sides: where zones and outputs are at rest, each RELEASE that its port takes waits on that port's queue, which has been
flushed and has room. The CALL_EMERGENCY conditions of this node's handsets end, and the CHANNEL_FAULT conditions of the channels in FAIL.
Where no new alarm is listed, every entry that the restart of a block does not concern stays as it is but for its DUE. -/
def Sys2Proof.Machine.callsAndFaultsEnd (s t : State) : Prop :=
  let most := 2 * s.csw.circuits.length + 2
  let pool := (List.range 256).filter fun b => (s.bank (bankOf b)).state == .inService
  (s.airAtRest → s.calm → t.fbf.reserve + most ≤ pool.length →
      ∀ c ∈ s.csw.circuits, ∀ side ∈ [(c.sideA, c.partyA), (c.sideB, c.partyB)],
        s.leads side.1 side.2.station → most ≤ s.mge.table.queueLimits[portQueue side.1] →
          waitsFor side.1 (callTo s side.1 side.2.station 3 c.prec.level c.zone c.id [11]) t)
    ∧ (s.alarmsSound = true →
      (∀ c ∈ s.csw.circuits, urgentCircuit c = true → t.alc.holdsActive .callEmergency c.partyA.station = false)
      ∧ ∀ c : Fin 48, (s.channel c).cfg.enabled = true → (s.channel c).causes.fail = true →
          t.alc.holdsActive .channelFault c.val = false)
    ∧ (s.alarmsSound = true → t.alc.serial = s.alc.serial → ∀ e ∈ s.alc.alarms,
        e.kind ∉ [AlarmKind.gasTrip, .gasWarn, .channelFault, .callEmergency, .relayFault] → ∃ due, { e with due } ∈ t.alc.alarms)

/-- RESTART sends its reply first and then waits for it to leave. RESTART_FLUSH, once it has left, discards every frame held: on the nine
queues, waiting for CLS, and being sent; every frame on a queue afterwards has been placed there since. The pool and the frames placed
since hold the blocks of the banks IN_SERVICE, a RETIRING bank is RETIRED, and each block of the node takes its RESTART values, the
configuration kept; every zone is evaluated from the restarted channels, and the relays are recomputed (R115: those of a severity from 1
to 15, R114); a slot that is held has been taken since, and where the pacer waits or the node is island every unacknowledged entry is DUE.
The circuits are released, and the conditions end that a restart ends; the alarm list and the event cells are kept. Where nothing is to be
sent, the queues are empty, the pool is whole, in ascending order, each spur port stands as R42 says, the alarm list, the segments and the
trucks are as they were, and no event is raised but BANK_CHANGE for a bank retired. (The order of the blocks' restarts and of the zones:
notes/assumptions/29.md and 37.md.) -/
def Obligations.RestartFlushesTheNode : Prop :=
  (∀ (u : Upsets) (f : Stored) (d : Frame) (s : State), s.asks u f d (.restart []) = true →
    ∃ x t, exec (.restart u) s = .next t ∧ x = (s.taken u f).reply d okStatus [] true
      ∧ t = (x.setMge { x.mge with restarting := true }).settle
      ∧ t.quiet = (s.setMge { s.mge with restarting := true }).quiet)
  ∧ ∀ s : State, s.restartReady = true →
    ∃ t, exec .restartFlush s = .next t ∧ t.mge.restarting = false ∧ t.time = s.time ∧ t.config = s.config
      ∧ t.cls = { s.cls with waiting := [] } ∧ t.csw.circuits = [] ∧ t.csw.nextId = s.csw.nextId
      ∧ t.broadcasts = s.broadcasts ∧ t.cfl = s.cfl ∧ t.hlc.roster = s.hlc.roster
      ∧ (∀ p, t.trunk p = { s.trunk p with tx := cutTrunk (s.trunk p).tx })
      ∧ (∀ n, (t.spur n).still = ({ s.spur n with
            poll := { (s.spur n).poll with state := .idle, due := none, waiting := false, sending := false, holdOff := none }
            tx := cutLine (s.spur n).tx } : SpurPort).still)
      ∧ (∀ n (k : Fin 4) (x : Slot), (t.spur n).slots[k] = some x → x.sent = false ∧ x.sending = false ∧ x.confirmDue = none)
      ∧ (∀ k, t.bank k = { s.bank k with state := if (s.bank k).state = .retiring then .retired else (s.bank k).state })
      ∧ (t.fbf.free ++ t.fbf.held).Perm ((List.range 256).filter fun b => (t.bank (bankOf b)).state == .inService)
      ∧ t.fbf.reserve = min 16 ((64 * t.fbf.banks.toList.countP (·.state != .retired)) / 4)
      ∧ (∀ q, ∀ g ∈ (t.queue q).frames, g.entry = some s.time)
      ∧ (∀ c, t.channel c = if (s.channel c).cfg.enabled then { s.channel c with
            computed := .starting, causes := ⟨false, false, false, false⟩, flags := ⟨false, false, false⟩
            lastValid := s.time, state := if (s.channel c).state = .inhibited then .inhibited else .starting }
          else s.channel c)
      ∧ zonesEvaluated (fun _ => true) s t
      ∧ (∀ k, 1 ≤ (t.relay k).severity → (t.relay k).severity ≤ 15 → (t.relay k).energised = commanded t (t.relay k))
      ∧ (s.alc.gapDue ≠ none ∨ s.alc.island = true → ∀ e ∈ t.alc.alarms, e.acked = false → e.due = true)
      ∧ callsAndFaultsEnd s t ∧ (∀ e, s.mge.has e = true → t.mge.has e = true)
      ∧ (s.atRest → (∀ q, t.queue q = { s.queue q with frames := [] }) ∧ t.fbf.held = []
        ∧ (∀ n, t.spur n = restartedPort (s.spur n))
        ∧ t.fbf.free = ((List.range 256).filter fun b => (t.bank (bankOf b)).state == .inService)
        ∧ t.alc = { s.alc with alarms := s.alc.alarms.map fun e => { e with due := e.due || !e.acked } }
        ∧ t.hlc = s.hlc
        ∧ ∀ e, t.mge.has e = (s.mge.has e || (e == .bankChange && (List.finRange 4).any fun k => (s.bank k).state == .retiring)))

/-- The commands that take arguments, by their codes, with how many (R179). -/
def Sys2Proof.Machine.argumentsOf : List (Nat × Nat) :=
  [(1, 1), (2, 2), (3, 1), (4, 1), (5, 1), (6, 2), (7, 1), (8, 3), (9, 1), (10, 1), (11, 1), (12, 2), (13, 1), (15, 1), (16, 1), (17, 1),
    (18, 1)]

/-- MGMT_FRAME_DISCARD and ALARM_FRAME_DISCARD: the frame leaves LOCAL and nothing else happens, also while MGE takes no request
(notes/assumptions/30.md). So it is with a HAUL frame of subtype 3 to 7 (R141), and with a CALL frame of subtype 5 to 7 or for node 63
(R120). (Which rows take these: THE MODEL'S CHOICE, notes/assumptions/9.md.) BAD_OPERATION_REQUEST: it is answered BAD_VALUE with detail
0, and nothing else happens. A COMMAND with too few arguments is answered BAD_VALUE with the number of the first that is missing, and
nothing else happens. -/
def Obligations.FramesWithNoMeaningAreDiscarded : Prop :=
  ∀ (u : Upsets) (f : Stored) (d : Frame) (s : State),
    (s.taken u f).quiet = s.quiet
    ∧ (s.hands u 0 f d = true → d.subtype ≠ 0 → exec (.mgmtFrameDiscard u) s = .next (s.taken u f).settle)
    ∧ (s.hands u 240 f d = true → exec (.alarmFrameDiscard u) s = .next (s.taken u f).settle)
    ∧ (s.hands u 242 f d = true → 3 ≤ d.subtype →
      ∀ c ∈ [Instr.entryRequestReceive u, .haulClearReceive u, .beaconReceive u], exec c s = .next (s.taken u f).settle)
    ∧ (s.hands u 243 f d = true → 5 ≤ d.subtype ∨ d.dst.node = 63 →
      ∀ c ∈ [Instr.callSetupReceive u, .callAlertReceive u, .callConnectReceive u, .callVoiceReceive u, .callReleaseReceive u],
        exec c s = .next (s.taken u f).settle)
    ∧ (s.asks u f d (.badOperationRequest []) = true →
      Answers (exec (.badOperationRequest u) s) d ⟨.badValue, 0⟩ [] fun t => t.quiet = s.quiet)
    ∧ ∀ code n, (code, n) ∈ argumentsOf → s.asks u f d (commandRow code []) = true → (commandArgs d.payload).length < n →
      Answers (exec (commandRow code u) s) d ⟨.badValue, (commandArgs d.payload).length + 1⟩ [] fun t => t.quiet = s.quiet

/-- R182, R107: the load has ended. No table has changed, the zones not evaluated before have been, and the NORMAL and PRIORITY circuits of
a zone that has come to TRIP by it are raised to ZONE (R134); nothing else has changed but the traffic and what an alarm moves. -/
def Sys2Proof.Machine.loadEnded (s t : State) : Prop :=
  let first (z : Fin 31) : Bool := !(s.zone z).evaluated
  let tripped (n : Nat) : Bool := (List.finRange 31).any fun z =>
    n == z.val + 1 && first z && (s.zone z).combined != .trip && (t.zone z).combined == .trip
  t.config = s.config ∧ t.base = (s.setCfl t.cfl).base ∧ (∀ z, (t.zone z).evaluated = true) ∧ zonesEvaluated first s t
    ∧ t.csw.circuits = s.csw.circuits.map fun c =>
        if tripped c.zone = true ∧ (c.prec = .normal ∨ c.prec = .priority) then { c with prec := .zone } else c

/-- CONFIG_RECORD_APPLY: the end marker completes the load; bytes that end before the record does, and a record that names no entry or has
another length than it, stop it; a record that the tables accept is carried out as a WRITE is (also one for the live rule set, R62): its
entry is stored, no other entry changes, the write's further effects follow, and the load goes on behind it. A memory that does not
acknowledge at the first read is ABSENT, and raises no event. The end of the load evaluates the zones not evaluated yet. (That NO_ANSWER
comes first: notes/assumptions/27.md.) -/
def Obligations.LoadAppliesRecordsInOrder : Prop :=
  ∀ (n : Option Nat) (m : List Byte) (s : State), s.cfl.load = .loading → s.cfl.memory = some m →
    let bs := (m.drop s.cfl.position).take (n.getD m.length)
    let table := byteAt bs 0
    let index := byteAt bs 1
    let len := byteAt bs 2
    let fs := fieldsOf ((bs.drop 3).take (2 * len))
    ∃ t, exec (.configRecordApply n) s = .next t ∧ t.time = s.time
      ∧ (let stops (cause : StopCause) : Prop :=
          t.cfl = { s.cfl with load := .stopped, stopTable := table, stopIndex := index, stopCause := cause }
            ∧ t.mge.has .loadError = true ∧ loadEnded s t
        if s.cfl.position = 0 ∧ n = some 0 then
          t.cfl = { s.cfl with load := .absent } ∧ loadEnded s t ∧ t.mge.has .loadError = s.mge.has .loadError
        else if bs = [] then stops .noAnswer
        else if table = 255 then
          t.cfl = { s.cfl with load := .complete } ∧ loadEnded s t
        else if bs.length < 3 ∨ bs.length < 3 + 2 * len then stops .noAnswer
        else if table = 0 ∨ 13 < table then stops .unknownTable
        else ∀ lo hi, tableRange table = some (lo, hi) →
          if index < lo ∨ hi < index then stops .badIndex
          else if len ≠ entryFields table index then stops .badLength
          else if (table = 4 ∨ table = 5) ∧ index = 10 then stops .refused
          else
            let next := { s.cfl with position := s.cfl.position + 3 + 2 * len, applied := s.cfl.applied + 1 }
            (fits s table index fs → ∃ x, t = (x.setCfl next).settle ∧ t.quiet = (x.setCfl next).quiet ∧ written table index fs s s x)
              ∧ (¬fits s table index fs → stops .refused))

/-! ## The tables and what they drive -/

/-- The node's tables keep their sizes and their order, and what they drive stands by its rule: the address windows (R45); the alarm list,
of 32 entries at most (R158, R160); circuits, trucks, broadcasts, reporters and waiting lists (section 6 of the overview); ALC's copies of
the zones (R113); a segment of a zone in TRIP or in lockdown (R151); the pacer, which in IDLE and able to announce leaves no entry DUE
(R166); the drops' masks, the lockdown counts, the severity flags and the relays (R163 to R165, R115). Every step keeps each of them. -/
def Obligations.TablesAndOutputsStaySound : Prop :=
  ∀ s t : State, Sys2Proof.Machine.step s = .next t →
    (s.windowsSound = true → t.windowsSound = true)
    ∧ (s.alarmsSound = true ∧ s.alc.alarms.length ≤ 32 → t.alarmsSound = true ∧ t.alc.alarms.length ≤ 32)
    ∧ (s.sizesSound = true → t.sizesSound = true)
    ∧ (s.copiesSound = true → t.copiesSound = true)
    ∧ (s.gasSound = true → t.gasSound = true)
    ∧ (s.alarmsSound = true → s.outputsSound = true → t.outputsSound = true)
    ∧ (s.trunksSound = true → s.pacerSound = true → t.pacerSound = true)

/-! ## Chapter 11: formats -/

/-- A frame sent is the frame received: every field of the ten header bytes and the payload comes back from its bytes, and its CRC
passes. -/
def Obligations.FramesReadBackAsSent : Prop :=
  ∀ f : Frame, f.wf = true → Frame.parse f.encode = some f ∧ f.encode.length = 12 + f.payload.length
    ∧ crcGood f.encode = true
end

