-- ==== Sys2Proof/Laws/State.lean ====
section
/-! SUPPORT. One lemma per field of State per update: what a named update writes and what it leaves. -/

namespace Sys2Proof.Machine

variable (s : State)

/-! ## setTrunk -/

@[simp] theorem State.setTrunk_time (p : TPort) (t : TrunkPort) : (s.setTrunk p t).time = s.time := by cases p <;> rfl
@[simp] theorem State.setTrunk_broadcasts (p : TPort) (t : TrunkPort) : (s.setTrunk p t).broadcasts = s.broadcasts := by cases p <;> rfl
@[simp] theorem State.setTrunk_spurs (p : TPort) (t : TrunkPort) : (s.setTrunk p t).spurs = s.spurs := by cases p <;> rfl
@[simp] theorem State.setTrunk_cls (p : TPort) (t : TrunkPort) : (s.setTrunk p t).cls = s.cls := by cases p <;> rfl
@[simp] theorem State.setTrunk_fbf (p : TPort) (t : TrunkPort) : (s.setTrunk p t).fbf = s.fbf := by cases p <;> rfl
@[simp] theorem State.setTrunk_egs (p : TPort) (t : TrunkPort) : (s.setTrunk p t).egs = s.egs := by cases p <;> rfl
@[simp] theorem State.setTrunk_channels (p : TPort) (t : TrunkPort) : (s.setTrunk p t).channels = s.channels := by cases p <;> rfl
@[simp] theorem State.setTrunk_zones (p : TPort) (t : TrunkPort) : (s.setTrunk p t).zones = s.zones := by cases p <;> rfl
@[simp] theorem State.setTrunk_relays (p : TPort) (t : TrunkPort) : (s.setTrunk p t).relays = s.relays := by cases p <;> rfl
@[simp] theorem State.setTrunk_csw (p : TPort) (t : TrunkPort) : (s.setTrunk p t).csw = s.csw := by cases p <;> rfl
@[simp] theorem State.setTrunk_hlc (p : TPort) (t : TrunkPort) : (s.setTrunk p t).hlc = s.hlc := by cases p <;> rfl
@[simp] theorem State.setTrunk_alc (p : TPort) (t : TrunkPort) : (s.setTrunk p t).alc = s.alc := by cases p <;> rfl
@[simp] theorem State.setTrunk_mge (p : TPort) (t : TrunkPort) : (s.setTrunk p t).mge = s.mge := by cases p <;> rfl
@[simp] theorem State.setTrunk_cfl (p : TPort) (t : TrunkPort) : (s.setTrunk p t).cfl = s.cfl := by cases p <;> rfl
@[simp] theorem State.setTrunk_pending (p : TPort) (t : TrunkPort) : (s.setTrunk p t).pending = s.pending := by cases p <;> rfl

/-! ## setSpur -/

@[simp] theorem State.setSpur_time (n : Fin 6) (x : SpurPort) : (s.setSpur n x).time = s.time := rfl
@[simp] theorem State.setSpur_tpe (n : Fin 6) (x : SpurPort) : (s.setSpur n x).tpe = s.tpe := rfl
@[simp] theorem State.setSpur_tpw (n : Fin 6) (x : SpurPort) : (s.setSpur n x).tpw = s.tpw := rfl
@[simp] theorem State.setSpur_broadcasts (n : Fin 6) (x : SpurPort) : (s.setSpur n x).broadcasts = s.broadcasts := rfl
@[simp] theorem State.setSpur_cls (n : Fin 6) (x : SpurPort) : (s.setSpur n x).cls = s.cls := rfl
@[simp] theorem State.setSpur_fbf (n : Fin 6) (x : SpurPort) : (s.setSpur n x).fbf = s.fbf := rfl
@[simp] theorem State.setSpur_egs (n : Fin 6) (x : SpurPort) : (s.setSpur n x).egs = s.egs := rfl
@[simp] theorem State.setSpur_channels (n : Fin 6) (x : SpurPort) : (s.setSpur n x).channels = s.channels := rfl
@[simp] theorem State.setSpur_zones (n : Fin 6) (x : SpurPort) : (s.setSpur n x).zones = s.zones := rfl
@[simp] theorem State.setSpur_relays (n : Fin 6) (x : SpurPort) : (s.setSpur n x).relays = s.relays := rfl
@[simp] theorem State.setSpur_csw (n : Fin 6) (x : SpurPort) : (s.setSpur n x).csw = s.csw := rfl
@[simp] theorem State.setSpur_hlc (n : Fin 6) (x : SpurPort) : (s.setSpur n x).hlc = s.hlc := rfl
@[simp] theorem State.setSpur_alc (n : Fin 6) (x : SpurPort) : (s.setSpur n x).alc = s.alc := rfl
@[simp] theorem State.setSpur_mge (n : Fin 6) (x : SpurPort) : (s.setSpur n x).mge = s.mge := rfl
@[simp] theorem State.setSpur_cfl (n : Fin 6) (x : SpurPort) : (s.setSpur n x).cfl = s.cfl := rfl
@[simp] theorem State.setSpur_pending (n : Fin 6) (x : SpurPort) : (s.setSpur n x).pending = s.pending := rfl

/-! ## setQueue -/

@[simp] theorem State.setQueue_time (q : Fin 9) (x : Queue) : (s.setQueue q x).time = s.time := rfl
@[simp] theorem State.setQueue_tpe (q : Fin 9) (x : Queue) : (s.setQueue q x).tpe = s.tpe := rfl
@[simp] theorem State.setQueue_tpw (q : Fin 9) (x : Queue) : (s.setQueue q x).tpw = s.tpw := rfl
@[simp] theorem State.setQueue_broadcasts (q : Fin 9) (x : Queue) : (s.setQueue q x).broadcasts = s.broadcasts := rfl
@[simp] theorem State.setQueue_spurs (q : Fin 9) (x : Queue) : (s.setQueue q x).spurs = s.spurs := rfl
@[simp] theorem State.setQueue_cls (q : Fin 9) (x : Queue) : (s.setQueue q x).cls = s.cls := rfl
@[simp] theorem State.setQueue_fbf (q : Fin 9) (x : Queue) : (s.setQueue q x).fbf = s.fbf := rfl
@[simp] theorem State.setQueue_channels (q : Fin 9) (x : Queue) : (s.setQueue q x).channels = s.channels := rfl
@[simp] theorem State.setQueue_zones (q : Fin 9) (x : Queue) : (s.setQueue q x).zones = s.zones := rfl
@[simp] theorem State.setQueue_relays (q : Fin 9) (x : Queue) : (s.setQueue q x).relays = s.relays := rfl
@[simp] theorem State.setQueue_csw (q : Fin 9) (x : Queue) : (s.setQueue q x).csw = s.csw := rfl
@[simp] theorem State.setQueue_hlc (q : Fin 9) (x : Queue) : (s.setQueue q x).hlc = s.hlc := rfl
@[simp] theorem State.setQueue_alc (q : Fin 9) (x : Queue) : (s.setQueue q x).alc = s.alc := rfl
@[simp] theorem State.setQueue_mge (q : Fin 9) (x : Queue) : (s.setQueue q x).mge = s.mge := rfl
@[simp] theorem State.setQueue_cfl (q : Fin 9) (x : Queue) : (s.setQueue q x).cfl = s.cfl := rfl
@[simp] theorem State.setQueue_pending (q : Fin 9) (x : Queue) : (s.setQueue q x).pending = s.pending := rfl

/-! ## setFbf -/

@[simp] theorem State.setFbf_time (x : Buffer) : (s.setFbf x).time = s.time := rfl
@[simp] theorem State.setFbf_tpe (x : Buffer) : (s.setFbf x).tpe = s.tpe := rfl
@[simp] theorem State.setFbf_tpw (x : Buffer) : (s.setFbf x).tpw = s.tpw := rfl
@[simp] theorem State.setFbf_broadcasts (x : Buffer) : (s.setFbf x).broadcasts = s.broadcasts := rfl
@[simp] theorem State.setFbf_spurs (x : Buffer) : (s.setFbf x).spurs = s.spurs := rfl
@[simp] theorem State.setFbf_cls (x : Buffer) : (s.setFbf x).cls = s.cls := rfl
@[simp] theorem State.setFbf_egs (x : Buffer) : (s.setFbf x).egs = s.egs := rfl
@[simp] theorem State.setFbf_channels (x : Buffer) : (s.setFbf x).channels = s.channels := rfl
@[simp] theorem State.setFbf_zones (x : Buffer) : (s.setFbf x).zones = s.zones := rfl
@[simp] theorem State.setFbf_relays (x : Buffer) : (s.setFbf x).relays = s.relays := rfl
@[simp] theorem State.setFbf_csw (x : Buffer) : (s.setFbf x).csw = s.csw := rfl
@[simp] theorem State.setFbf_hlc (x : Buffer) : (s.setFbf x).hlc = s.hlc := rfl
@[simp] theorem State.setFbf_alc (x : Buffer) : (s.setFbf x).alc = s.alc := rfl
@[simp] theorem State.setFbf_mge (x : Buffer) : (s.setFbf x).mge = s.mge := rfl
@[simp] theorem State.setFbf_cfl (x : Buffer) : (s.setFbf x).cfl = s.cfl := rfl
@[simp] theorem State.setFbf_pending (x : Buffer) : (s.setFbf x).pending = s.pending := rfl
@[simp] theorem State.setFbf_fbf (x : Buffer) : (s.setFbf x).fbf = x := rfl

/-! ## setBank -/

@[simp] theorem State.setBank_time (k : Fin 4) (x : Bank) : (s.setBank k x).time = s.time := rfl
@[simp] theorem State.setBank_tpe (k : Fin 4) (x : Bank) : (s.setBank k x).tpe = s.tpe := rfl
@[simp] theorem State.setBank_tpw (k : Fin 4) (x : Bank) : (s.setBank k x).tpw = s.tpw := rfl
@[simp] theorem State.setBank_broadcasts (k : Fin 4) (x : Bank) : (s.setBank k x).broadcasts = s.broadcasts := rfl
@[simp] theorem State.setBank_spurs (k : Fin 4) (x : Bank) : (s.setBank k x).spurs = s.spurs := rfl
@[simp] theorem State.setBank_cls (k : Fin 4) (x : Bank) : (s.setBank k x).cls = s.cls := rfl
@[simp] theorem State.setBank_egs (k : Fin 4) (x : Bank) : (s.setBank k x).egs = s.egs := rfl
@[simp] theorem State.setBank_channels (k : Fin 4) (x : Bank) : (s.setBank k x).channels = s.channels := rfl
@[simp] theorem State.setBank_zones (k : Fin 4) (x : Bank) : (s.setBank k x).zones = s.zones := rfl
@[simp] theorem State.setBank_relays (k : Fin 4) (x : Bank) : (s.setBank k x).relays = s.relays := rfl
@[simp] theorem State.setBank_csw (k : Fin 4) (x : Bank) : (s.setBank k x).csw = s.csw := rfl
@[simp] theorem State.setBank_hlc (k : Fin 4) (x : Bank) : (s.setBank k x).hlc = s.hlc := rfl
@[simp] theorem State.setBank_alc (k : Fin 4) (x : Bank) : (s.setBank k x).alc = s.alc := rfl
@[simp] theorem State.setBank_mge (k : Fin 4) (x : Bank) : (s.setBank k x).mge = s.mge := rfl
@[simp] theorem State.setBank_cfl (k : Fin 4) (x : Bank) : (s.setBank k x).cfl = s.cfl := rfl
@[simp] theorem State.setBank_pending (k : Fin 4) (x : Bank) : (s.setBank k x).pending = s.pending := rfl

/-! ## setChannel -/

@[simp] theorem State.setChannel_time (c : Fin 48) (x : Channel) : (s.setChannel c x).time = s.time := rfl
@[simp] theorem State.setChannel_tpe (c : Fin 48) (x : Channel) : (s.setChannel c x).tpe = s.tpe := rfl
@[simp] theorem State.setChannel_tpw (c : Fin 48) (x : Channel) : (s.setChannel c x).tpw = s.tpw := rfl
@[simp] theorem State.setChannel_broadcasts (c : Fin 48) (x : Channel) : (s.setChannel c x).broadcasts = s.broadcasts := rfl
@[simp] theorem State.setChannel_spurs (c : Fin 48) (x : Channel) : (s.setChannel c x).spurs = s.spurs := rfl
@[simp] theorem State.setChannel_cls (c : Fin 48) (x : Channel) : (s.setChannel c x).cls = s.cls := rfl
@[simp] theorem State.setChannel_fbf (c : Fin 48) (x : Channel) : (s.setChannel c x).fbf = s.fbf := rfl
@[simp] theorem State.setChannel_egs (c : Fin 48) (x : Channel) : (s.setChannel c x).egs = s.egs := rfl
@[simp] theorem State.setChannel_zones (c : Fin 48) (x : Channel) : (s.setChannel c x).zones = s.zones := rfl
@[simp] theorem State.setChannel_relays (c : Fin 48) (x : Channel) : (s.setChannel c x).relays = s.relays := rfl
@[simp] theorem State.setChannel_csw (c : Fin 48) (x : Channel) : (s.setChannel c x).csw = s.csw := rfl
@[simp] theorem State.setChannel_hlc (c : Fin 48) (x : Channel) : (s.setChannel c x).hlc = s.hlc := rfl
@[simp] theorem State.setChannel_alc (c : Fin 48) (x : Channel) : (s.setChannel c x).alc = s.alc := rfl
@[simp] theorem State.setChannel_mge (c : Fin 48) (x : Channel) : (s.setChannel c x).mge = s.mge := rfl
@[simp] theorem State.setChannel_cfl (c : Fin 48) (x : Channel) : (s.setChannel c x).cfl = s.cfl := rfl
@[simp] theorem State.setChannel_pending (c : Fin 48) (x : Channel) : (s.setChannel c x).pending = s.pending := rfl

/-! ## setZone -/

@[simp] theorem State.setZone_time (z : Fin 31) (x : Zone) : (s.setZone z x).time = s.time := rfl
@[simp] theorem State.setZone_tpe (z : Fin 31) (x : Zone) : (s.setZone z x).tpe = s.tpe := rfl
@[simp] theorem State.setZone_tpw (z : Fin 31) (x : Zone) : (s.setZone z x).tpw = s.tpw := rfl
@[simp] theorem State.setZone_broadcasts (z : Fin 31) (x : Zone) : (s.setZone z x).broadcasts = s.broadcasts := rfl
@[simp] theorem State.setZone_spurs (z : Fin 31) (x : Zone) : (s.setZone z x).spurs = s.spurs := rfl
@[simp] theorem State.setZone_cls (z : Fin 31) (x : Zone) : (s.setZone z x).cls = s.cls := rfl
@[simp] theorem State.setZone_fbf (z : Fin 31) (x : Zone) : (s.setZone z x).fbf = s.fbf := rfl
@[simp] theorem State.setZone_egs (z : Fin 31) (x : Zone) : (s.setZone z x).egs = s.egs := rfl
@[simp] theorem State.setZone_channels (z : Fin 31) (x : Zone) : (s.setZone z x).channels = s.channels := rfl
@[simp] theorem State.setZone_relays (z : Fin 31) (x : Zone) : (s.setZone z x).relays = s.relays := rfl
@[simp] theorem State.setZone_csw (z : Fin 31) (x : Zone) : (s.setZone z x).csw = s.csw := rfl
@[simp] theorem State.setZone_hlc (z : Fin 31) (x : Zone) : (s.setZone z x).hlc = s.hlc := rfl
@[simp] theorem State.setZone_alc (z : Fin 31) (x : Zone) : (s.setZone z x).alc = s.alc := rfl
@[simp] theorem State.setZone_mge (z : Fin 31) (x : Zone) : (s.setZone z x).mge = s.mge := rfl
@[simp] theorem State.setZone_cfl (z : Fin 31) (x : Zone) : (s.setZone z x).cfl = s.cfl := rfl
@[simp] theorem State.setZone_pending (z : Fin 31) (x : Zone) : (s.setZone z x).pending = s.pending := rfl

/-! ## setRelay -/

@[simp] theorem State.setRelay_time (r : Fin 4) (x : Relay) : (s.setRelay r x).time = s.time := rfl
@[simp] theorem State.setRelay_tpe (r : Fin 4) (x : Relay) : (s.setRelay r x).tpe = s.tpe := rfl
@[simp] theorem State.setRelay_tpw (r : Fin 4) (x : Relay) : (s.setRelay r x).tpw = s.tpw := rfl
@[simp] theorem State.setRelay_broadcasts (r : Fin 4) (x : Relay) : (s.setRelay r x).broadcasts = s.broadcasts := rfl
@[simp] theorem State.setRelay_spurs (r : Fin 4) (x : Relay) : (s.setRelay r x).spurs = s.spurs := rfl
@[simp] theorem State.setRelay_cls (r : Fin 4) (x : Relay) : (s.setRelay r x).cls = s.cls := rfl
@[simp] theorem State.setRelay_fbf (r : Fin 4) (x : Relay) : (s.setRelay r x).fbf = s.fbf := rfl
@[simp] theorem State.setRelay_egs (r : Fin 4) (x : Relay) : (s.setRelay r x).egs = s.egs := rfl
@[simp] theorem State.setRelay_channels (r : Fin 4) (x : Relay) : (s.setRelay r x).channels = s.channels := rfl
@[simp] theorem State.setRelay_zones (r : Fin 4) (x : Relay) : (s.setRelay r x).zones = s.zones := rfl
@[simp] theorem State.setRelay_csw (r : Fin 4) (x : Relay) : (s.setRelay r x).csw = s.csw := rfl
@[simp] theorem State.setRelay_hlc (r : Fin 4) (x : Relay) : (s.setRelay r x).hlc = s.hlc := rfl
@[simp] theorem State.setRelay_alc (r : Fin 4) (x : Relay) : (s.setRelay r x).alc = s.alc := rfl
@[simp] theorem State.setRelay_mge (r : Fin 4) (x : Relay) : (s.setRelay r x).mge = s.mge := rfl
@[simp] theorem State.setRelay_cfl (r : Fin 4) (x : Relay) : (s.setRelay r x).cfl = s.cfl := rfl
@[simp] theorem State.setRelay_pending (r : Fin 4) (x : Relay) : (s.setRelay r x).pending = s.pending := rfl

/-! ## setHlc -/

@[simp] theorem State.setHlc_time (x : HaulControl) : (s.setHlc x).time = s.time := rfl
@[simp] theorem State.setHlc_tpe (x : HaulControl) : (s.setHlc x).tpe = s.tpe := rfl
@[simp] theorem State.setHlc_tpw (x : HaulControl) : (s.setHlc x).tpw = s.tpw := rfl
@[simp] theorem State.setHlc_broadcasts (x : HaulControl) : (s.setHlc x).broadcasts = s.broadcasts := rfl
@[simp] theorem State.setHlc_spurs (x : HaulControl) : (s.setHlc x).spurs = s.spurs := rfl
@[simp] theorem State.setHlc_cls (x : HaulControl) : (s.setHlc x).cls = s.cls := rfl
@[simp] theorem State.setHlc_fbf (x : HaulControl) : (s.setHlc x).fbf = s.fbf := rfl
@[simp] theorem State.setHlc_egs (x : HaulControl) : (s.setHlc x).egs = s.egs := rfl
@[simp] theorem State.setHlc_channels (x : HaulControl) : (s.setHlc x).channels = s.channels := rfl
@[simp] theorem State.setHlc_zones (x : HaulControl) : (s.setHlc x).zones = s.zones := rfl
@[simp] theorem State.setHlc_relays (x : HaulControl) : (s.setHlc x).relays = s.relays := rfl
@[simp] theorem State.setHlc_csw (x : HaulControl) : (s.setHlc x).csw = s.csw := rfl
@[simp] theorem State.setHlc_alc (x : HaulControl) : (s.setHlc x).alc = s.alc := rfl
@[simp] theorem State.setHlc_mge (x : HaulControl) : (s.setHlc x).mge = s.mge := rfl
@[simp] theorem State.setHlc_cfl (x : HaulControl) : (s.setHlc x).cfl = s.cfl := rfl
@[simp] theorem State.setHlc_pending (x : HaulControl) : (s.setHlc x).pending = s.pending := rfl
@[simp] theorem State.setHlc_hlc (x : HaulControl) : (s.setHlc x).hlc = x := rfl

/-! ## setSegment -/

@[simp] theorem State.setSegment_time (g : Fin 16) (x : Segment) : (s.setSegment g x).time = s.time := rfl
@[simp] theorem State.setSegment_tpe (g : Fin 16) (x : Segment) : (s.setSegment g x).tpe = s.tpe := rfl
@[simp] theorem State.setSegment_tpw (g : Fin 16) (x : Segment) : (s.setSegment g x).tpw = s.tpw := rfl
@[simp] theorem State.setSegment_broadcasts (g : Fin 16) (x : Segment) : (s.setSegment g x).broadcasts = s.broadcasts := rfl
@[simp] theorem State.setSegment_spurs (g : Fin 16) (x : Segment) : (s.setSegment g x).spurs = s.spurs := rfl
@[simp] theorem State.setSegment_cls (g : Fin 16) (x : Segment) : (s.setSegment g x).cls = s.cls := rfl
@[simp] theorem State.setSegment_fbf (g : Fin 16) (x : Segment) : (s.setSegment g x).fbf = s.fbf := rfl
@[simp] theorem State.setSegment_egs (g : Fin 16) (x : Segment) : (s.setSegment g x).egs = s.egs := rfl
@[simp] theorem State.setSegment_channels (g : Fin 16) (x : Segment) : (s.setSegment g x).channels = s.channels := rfl
@[simp] theorem State.setSegment_zones (g : Fin 16) (x : Segment) : (s.setSegment g x).zones = s.zones := rfl
@[simp] theorem State.setSegment_relays (g : Fin 16) (x : Segment) : (s.setSegment g x).relays = s.relays := rfl
@[simp] theorem State.setSegment_csw (g : Fin 16) (x : Segment) : (s.setSegment g x).csw = s.csw := rfl
@[simp] theorem State.setSegment_alc (g : Fin 16) (x : Segment) : (s.setSegment g x).alc = s.alc := rfl
@[simp] theorem State.setSegment_mge (g : Fin 16) (x : Segment) : (s.setSegment g x).mge = s.mge := rfl
@[simp] theorem State.setSegment_cfl (g : Fin 16) (x : Segment) : (s.setSegment g x).cfl = s.cfl := rfl
@[simp] theorem State.setSegment_pending (g : Fin 16) (x : Segment) : (s.setSegment g x).pending = s.pending := rfl

/-! ## setTrucks -/

@[simp] theorem State.setTrucks_time (x : List Truck) : (s.setTrucks x).time = s.time := rfl
@[simp] theorem State.setTrucks_tpe (x : List Truck) : (s.setTrucks x).tpe = s.tpe := rfl
@[simp] theorem State.setTrucks_tpw (x : List Truck) : (s.setTrucks x).tpw = s.tpw := rfl
@[simp] theorem State.setTrucks_broadcasts (x : List Truck) : (s.setTrucks x).broadcasts = s.broadcasts := rfl
@[simp] theorem State.setTrucks_spurs (x : List Truck) : (s.setTrucks x).spurs = s.spurs := rfl
@[simp] theorem State.setTrucks_cls (x : List Truck) : (s.setTrucks x).cls = s.cls := rfl
@[simp] theorem State.setTrucks_fbf (x : List Truck) : (s.setTrucks x).fbf = s.fbf := rfl
@[simp] theorem State.setTrucks_egs (x : List Truck) : (s.setTrucks x).egs = s.egs := rfl
@[simp] theorem State.setTrucks_channels (x : List Truck) : (s.setTrucks x).channels = s.channels := rfl
@[simp] theorem State.setTrucks_zones (x : List Truck) : (s.setTrucks x).zones = s.zones := rfl
@[simp] theorem State.setTrucks_relays (x : List Truck) : (s.setTrucks x).relays = s.relays := rfl
@[simp] theorem State.setTrucks_csw (x : List Truck) : (s.setTrucks x).csw = s.csw := rfl
@[simp] theorem State.setTrucks_alc (x : List Truck) : (s.setTrucks x).alc = s.alc := rfl
@[simp] theorem State.setTrucks_mge (x : List Truck) : (s.setTrucks x).mge = s.mge := rfl
@[simp] theorem State.setTrucks_cfl (x : List Truck) : (s.setTrucks x).cfl = s.cfl := rfl
@[simp] theorem State.setTrucks_pending (x : List Truck) : (s.setTrucks x).pending = s.pending := rfl

/-! ## setCls -/

@[simp] theorem State.setCls_time (x : Classifier) : (s.setCls x).time = s.time := rfl
@[simp] theorem State.setCls_tpe (x : Classifier) : (s.setCls x).tpe = s.tpe := rfl
@[simp] theorem State.setCls_tpw (x : Classifier) : (s.setCls x).tpw = s.tpw := rfl
@[simp] theorem State.setCls_broadcasts (x : Classifier) : (s.setCls x).broadcasts = s.broadcasts := rfl
@[simp] theorem State.setCls_spurs (x : Classifier) : (s.setCls x).spurs = s.spurs := rfl
@[simp] theorem State.setCls_fbf (x : Classifier) : (s.setCls x).fbf = s.fbf := rfl
@[simp] theorem State.setCls_egs (x : Classifier) : (s.setCls x).egs = s.egs := rfl
@[simp] theorem State.setCls_channels (x : Classifier) : (s.setCls x).channels = s.channels := rfl
@[simp] theorem State.setCls_zones (x : Classifier) : (s.setCls x).zones = s.zones := rfl
@[simp] theorem State.setCls_relays (x : Classifier) : (s.setCls x).relays = s.relays := rfl
@[simp] theorem State.setCls_csw (x : Classifier) : (s.setCls x).csw = s.csw := rfl
@[simp] theorem State.setCls_hlc (x : Classifier) : (s.setCls x).hlc = s.hlc := rfl
@[simp] theorem State.setCls_alc (x : Classifier) : (s.setCls x).alc = s.alc := rfl
@[simp] theorem State.setCls_mge (x : Classifier) : (s.setCls x).mge = s.mge := rfl
@[simp] theorem State.setCls_cfl (x : Classifier) : (s.setCls x).cfl = s.cfl := rfl
@[simp] theorem State.setCls_pending (x : Classifier) : (s.setCls x).pending = s.pending := rfl
@[simp] theorem State.setCls_cls (x : Classifier) : (s.setCls x).cls = x := rfl

/-! ## setCsw -/

@[simp] theorem State.setCsw_time (x : CallSwitch) : (s.setCsw x).time = s.time := rfl
@[simp] theorem State.setCsw_tpe (x : CallSwitch) : (s.setCsw x).tpe = s.tpe := rfl
@[simp] theorem State.setCsw_tpw (x : CallSwitch) : (s.setCsw x).tpw = s.tpw := rfl
@[simp] theorem State.setCsw_broadcasts (x : CallSwitch) : (s.setCsw x).broadcasts = s.broadcasts := rfl
@[simp] theorem State.setCsw_spurs (x : CallSwitch) : (s.setCsw x).spurs = s.spurs := rfl
@[simp] theorem State.setCsw_cls (x : CallSwitch) : (s.setCsw x).cls = s.cls := rfl
@[simp] theorem State.setCsw_fbf (x : CallSwitch) : (s.setCsw x).fbf = s.fbf := rfl
@[simp] theorem State.setCsw_egs (x : CallSwitch) : (s.setCsw x).egs = s.egs := rfl
@[simp] theorem State.setCsw_channels (x : CallSwitch) : (s.setCsw x).channels = s.channels := rfl
@[simp] theorem State.setCsw_zones (x : CallSwitch) : (s.setCsw x).zones = s.zones := rfl
@[simp] theorem State.setCsw_relays (x : CallSwitch) : (s.setCsw x).relays = s.relays := rfl
@[simp] theorem State.setCsw_hlc (x : CallSwitch) : (s.setCsw x).hlc = s.hlc := rfl
@[simp] theorem State.setCsw_alc (x : CallSwitch) : (s.setCsw x).alc = s.alc := rfl
@[simp] theorem State.setCsw_mge (x : CallSwitch) : (s.setCsw x).mge = s.mge := rfl
@[simp] theorem State.setCsw_cfl (x : CallSwitch) : (s.setCsw x).cfl = s.cfl := rfl
@[simp] theorem State.setCsw_pending (x : CallSwitch) : (s.setCsw x).pending = s.pending := rfl
@[simp] theorem State.setCsw_csw (x : CallSwitch) : (s.setCsw x).csw = x := rfl

/-! ## setAlc -/

@[simp] theorem State.setAlc_time (x : AlarmControl) : (s.setAlc x).time = s.time := rfl
@[simp] theorem State.setAlc_tpe (x : AlarmControl) : (s.setAlc x).tpe = s.tpe := rfl
@[simp] theorem State.setAlc_tpw (x : AlarmControl) : (s.setAlc x).tpw = s.tpw := rfl
@[simp] theorem State.setAlc_broadcasts (x : AlarmControl) : (s.setAlc x).broadcasts = s.broadcasts := rfl
@[simp] theorem State.setAlc_spurs (x : AlarmControl) : (s.setAlc x).spurs = s.spurs := rfl
@[simp] theorem State.setAlc_cls (x : AlarmControl) : (s.setAlc x).cls = s.cls := rfl
@[simp] theorem State.setAlc_fbf (x : AlarmControl) : (s.setAlc x).fbf = s.fbf := rfl
@[simp] theorem State.setAlc_egs (x : AlarmControl) : (s.setAlc x).egs = s.egs := rfl
@[simp] theorem State.setAlc_channels (x : AlarmControl) : (s.setAlc x).channels = s.channels := rfl
@[simp] theorem State.setAlc_zones (x : AlarmControl) : (s.setAlc x).zones = s.zones := rfl
@[simp] theorem State.setAlc_relays (x : AlarmControl) : (s.setAlc x).relays = s.relays := rfl
@[simp] theorem State.setAlc_csw (x : AlarmControl) : (s.setAlc x).csw = s.csw := rfl
@[simp] theorem State.setAlc_hlc (x : AlarmControl) : (s.setAlc x).hlc = s.hlc := rfl
@[simp] theorem State.setAlc_mge (x : AlarmControl) : (s.setAlc x).mge = s.mge := rfl
@[simp] theorem State.setAlc_cfl (x : AlarmControl) : (s.setAlc x).cfl = s.cfl := rfl
@[simp] theorem State.setAlc_pending (x : AlarmControl) : (s.setAlc x).pending = s.pending := rfl
@[simp] theorem State.setAlc_alc (x : AlarmControl) : (s.setAlc x).alc = x := rfl

/-! ## setMge -/

@[simp] theorem State.setMge_time (x : Manager) : (s.setMge x).time = s.time := rfl
@[simp] theorem State.setMge_tpe (x : Manager) : (s.setMge x).tpe = s.tpe := rfl
@[simp] theorem State.setMge_tpw (x : Manager) : (s.setMge x).tpw = s.tpw := rfl
@[simp] theorem State.setMge_broadcasts (x : Manager) : (s.setMge x).broadcasts = s.broadcasts := rfl
@[simp] theorem State.setMge_spurs (x : Manager) : (s.setMge x).spurs = s.spurs := rfl
@[simp] theorem State.setMge_cls (x : Manager) : (s.setMge x).cls = s.cls := rfl
@[simp] theorem State.setMge_fbf (x : Manager) : (s.setMge x).fbf = s.fbf := rfl
@[simp] theorem State.setMge_egs (x : Manager) : (s.setMge x).egs = s.egs := rfl
@[simp] theorem State.setMge_channels (x : Manager) : (s.setMge x).channels = s.channels := rfl
@[simp] theorem State.setMge_zones (x : Manager) : (s.setMge x).zones = s.zones := rfl
@[simp] theorem State.setMge_relays (x : Manager) : (s.setMge x).relays = s.relays := rfl
@[simp] theorem State.setMge_csw (x : Manager) : (s.setMge x).csw = s.csw := rfl
@[simp] theorem State.setMge_hlc (x : Manager) : (s.setMge x).hlc = s.hlc := rfl
@[simp] theorem State.setMge_alc (x : Manager) : (s.setMge x).alc = s.alc := rfl
@[simp] theorem State.setMge_cfl (x : Manager) : (s.setMge x).cfl = s.cfl := rfl
@[simp] theorem State.setMge_pending (x : Manager) : (s.setMge x).pending = s.pending := rfl
@[simp] theorem State.setMge_mge (x : Manager) : (s.setMge x).mge = x := rfl

/-! ## setCfl -/

@[simp] theorem State.setCfl_time (x : Loader) : (s.setCfl x).time = s.time := rfl
@[simp] theorem State.setCfl_tpe (x : Loader) : (s.setCfl x).tpe = s.tpe := rfl
@[simp] theorem State.setCfl_tpw (x : Loader) : (s.setCfl x).tpw = s.tpw := rfl
@[simp] theorem State.setCfl_broadcasts (x : Loader) : (s.setCfl x).broadcasts = s.broadcasts := rfl
@[simp] theorem State.setCfl_spurs (x : Loader) : (s.setCfl x).spurs = s.spurs := rfl
@[simp] theorem State.setCfl_cls (x : Loader) : (s.setCfl x).cls = s.cls := rfl
@[simp] theorem State.setCfl_fbf (x : Loader) : (s.setCfl x).fbf = s.fbf := rfl
@[simp] theorem State.setCfl_egs (x : Loader) : (s.setCfl x).egs = s.egs := rfl
@[simp] theorem State.setCfl_channels (x : Loader) : (s.setCfl x).channels = s.channels := rfl
@[simp] theorem State.setCfl_zones (x : Loader) : (s.setCfl x).zones = s.zones := rfl
@[simp] theorem State.setCfl_relays (x : Loader) : (s.setCfl x).relays = s.relays := rfl
@[simp] theorem State.setCfl_csw (x : Loader) : (s.setCfl x).csw = s.csw := rfl
@[simp] theorem State.setCfl_hlc (x : Loader) : (s.setCfl x).hlc = s.hlc := rfl
@[simp] theorem State.setCfl_alc (x : Loader) : (s.setCfl x).alc = s.alc := rfl
@[simp] theorem State.setCfl_mge (x : Loader) : (s.setCfl x).mge = s.mge := rfl
@[simp] theorem State.setCfl_pending (x : Loader) : (s.setCfl x).pending = s.pending := rfl
@[simp] theorem State.setCfl_cfl (x : Loader) : (s.setCfl x).cfl = x := rfl

/-! ## setBroadcasts -/

@[simp] theorem State.setBroadcasts_time (x : List BroadcastEntry) : (s.setBroadcasts x).time = s.time := rfl
@[simp] theorem State.setBroadcasts_tpe (x : List BroadcastEntry) : (s.setBroadcasts x).tpe = s.tpe := rfl
@[simp] theorem State.setBroadcasts_tpw (x : List BroadcastEntry) : (s.setBroadcasts x).tpw = s.tpw := rfl
@[simp] theorem State.setBroadcasts_spurs (x : List BroadcastEntry) : (s.setBroadcasts x).spurs = s.spurs := rfl
@[simp] theorem State.setBroadcasts_cls (x : List BroadcastEntry) : (s.setBroadcasts x).cls = s.cls := rfl
@[simp] theorem State.setBroadcasts_fbf (x : List BroadcastEntry) : (s.setBroadcasts x).fbf = s.fbf := rfl
@[simp] theorem State.setBroadcasts_egs (x : List BroadcastEntry) : (s.setBroadcasts x).egs = s.egs := rfl
@[simp] theorem State.setBroadcasts_channels (x : List BroadcastEntry) : (s.setBroadcasts x).channels = s.channels := rfl
@[simp] theorem State.setBroadcasts_zones (x : List BroadcastEntry) : (s.setBroadcasts x).zones = s.zones := rfl
@[simp] theorem State.setBroadcasts_relays (x : List BroadcastEntry) : (s.setBroadcasts x).relays = s.relays := rfl
@[simp] theorem State.setBroadcasts_csw (x : List BroadcastEntry) : (s.setBroadcasts x).csw = s.csw := rfl
@[simp] theorem State.setBroadcasts_hlc (x : List BroadcastEntry) : (s.setBroadcasts x).hlc = s.hlc := rfl
@[simp] theorem State.setBroadcasts_alc (x : List BroadcastEntry) : (s.setBroadcasts x).alc = s.alc := rfl
@[simp] theorem State.setBroadcasts_mge (x : List BroadcastEntry) : (s.setBroadcasts x).mge = s.mge := rfl
@[simp] theorem State.setBroadcasts_cfl (x : List BroadcastEntry) : (s.setBroadcasts x).cfl = s.cfl := rfl
@[simp] theorem State.setBroadcasts_pending (x : List BroadcastEntry) : (s.setBroadcasts x).pending = s.pending := rfl
@[simp] theorem State.setBroadcasts_broadcasts (x : List BroadcastEntry) : (s.setBroadcasts x).broadcasts = x := rfl

/-! ## setPending -/

@[simp] theorem State.setPending_time (x : List Instr) : (s.setPending x).time = s.time := rfl
@[simp] theorem State.setPending_tpe (x : List Instr) : (s.setPending x).tpe = s.tpe := rfl
@[simp] theorem State.setPending_tpw (x : List Instr) : (s.setPending x).tpw = s.tpw := rfl
@[simp] theorem State.setPending_broadcasts (x : List Instr) : (s.setPending x).broadcasts = s.broadcasts := rfl
@[simp] theorem State.setPending_spurs (x : List Instr) : (s.setPending x).spurs = s.spurs := rfl
@[simp] theorem State.setPending_cls (x : List Instr) : (s.setPending x).cls = s.cls := rfl
@[simp] theorem State.setPending_fbf (x : List Instr) : (s.setPending x).fbf = s.fbf := rfl
@[simp] theorem State.setPending_egs (x : List Instr) : (s.setPending x).egs = s.egs := rfl
@[simp] theorem State.setPending_channels (x : List Instr) : (s.setPending x).channels = s.channels := rfl
@[simp] theorem State.setPending_zones (x : List Instr) : (s.setPending x).zones = s.zones := rfl
@[simp] theorem State.setPending_relays (x : List Instr) : (s.setPending x).relays = s.relays := rfl
@[simp] theorem State.setPending_csw (x : List Instr) : (s.setPending x).csw = s.csw := rfl
@[simp] theorem State.setPending_hlc (x : List Instr) : (s.setPending x).hlc = s.hlc := rfl
@[simp] theorem State.setPending_alc (x : List Instr) : (s.setPending x).alc = s.alc := rfl
@[simp] theorem State.setPending_mge (x : List Instr) : (s.setPending x).mge = s.mge := rfl
@[simp] theorem State.setPending_cfl (x : List Instr) : (s.setPending x).cfl = s.cfl := rfl
@[simp] theorem State.setPending_pending (x : List Instr) : (s.setPending x).pending = x := rfl

/-! ## raise -/

@[simp] theorem State.raise_time (e : EventKind) : (s.raise e).time = s.time := rfl
@[simp] theorem State.raise_tpe (e : EventKind) : (s.raise e).tpe = s.tpe := rfl
@[simp] theorem State.raise_tpw (e : EventKind) : (s.raise e).tpw = s.tpw := rfl
@[simp] theorem State.raise_broadcasts (e : EventKind) : (s.raise e).broadcasts = s.broadcasts := rfl
@[simp] theorem State.raise_spurs (e : EventKind) : (s.raise e).spurs = s.spurs := rfl
@[simp] theorem State.raise_cls (e : EventKind) : (s.raise e).cls = s.cls := rfl
@[simp] theorem State.raise_fbf (e : EventKind) : (s.raise e).fbf = s.fbf := rfl
@[simp] theorem State.raise_egs (e : EventKind) : (s.raise e).egs = s.egs := rfl
@[simp] theorem State.raise_channels (e : EventKind) : (s.raise e).channels = s.channels := rfl
@[simp] theorem State.raise_zones (e : EventKind) : (s.raise e).zones = s.zones := rfl
@[simp] theorem State.raise_relays (e : EventKind) : (s.raise e).relays = s.relays := rfl
@[simp] theorem State.raise_csw (e : EventKind) : (s.raise e).csw = s.csw := rfl
@[simp] theorem State.raise_hlc (e : EventKind) : (s.raise e).hlc = s.hlc := rfl
@[simp] theorem State.raise_alc (e : EventKind) : (s.raise e).alc = s.alc := rfl
@[simp] theorem State.raise_cfl (e : EventKind) : (s.raise e).cfl = s.cfl := rfl
@[simp] theorem State.raise_pending (e : EventKind) : (s.raise e).pending = s.pending := rfl

/-! ## Entries read back -/

@[simp] theorem State.setTrunk_trunk (p : TPort) (t : TrunkPort) : (s.setTrunk p t).trunk p = t := by cases p <;> rfl
@[simp] theorem State.setTrunk_trunk_other (p : TPort) (t : TrunkPort) :
    (s.setTrunk p t).trunk p.other = s.trunk p.other := by cases p <;> rfl
@[simp] theorem State.setTrunk_trunk_self (p : TPort) : s.setTrunk p (s.trunk p) = s := by cases p <;> rfl
@[simp] theorem State.setTrunk_setTrunk (p : TPort) (t x : TrunkPort) : (s.setTrunk p t).setTrunk p x = s.setTrunk p x := by
  cases p <;> rfl
@[simp] theorem State.setSpur_spur (n : Fin 6) (x : SpurPort) : (s.setSpur n x).spur n = x := by simp [setSpur, spur]
theorem State.setSpur_spur_ne {n m : Fin 6} (h : n ≠ m) (x : SpurPort) : (s.setSpur n x).spur m = s.spur m := by
  simp [setSpur, spur, Fin.val_ne_of_ne h]
@[simp] theorem State.setQueue_queue (q : Fin 9) (x : Queue) : (s.setQueue q x).queue q = x := by simp [setQueue, queue]
theorem State.setQueue_queue_ne {q r : Fin 9} (h : q ≠ r) (x : Queue) : (s.setQueue q x).queue r = s.queue r := by
  simp [setQueue, queue, Fin.val_ne_of_ne h]
@[simp] theorem State.setBank_bank (k : Fin 4) (x : Bank) : (s.setBank k x).bank k = x := by simp [setBank, setFbf, bank]
theorem State.setBank_bank_ne {k j : Fin 4} (h : k ≠ j) (x : Bank) : (s.setBank k x).bank j = s.bank j := by
  simp [setBank, setFbf, bank, Fin.val_ne_of_ne h]
@[simp] theorem State.setChannel_channel (c : Fin 48) (x : Channel) : (s.setChannel c x).channel c = x := by
  simp [setChannel, channel]
theorem State.setChannel_channel_ne {c e : Fin 48} (h : c ≠ e) (x : Channel) :
    (s.setChannel c x).channel e = s.channel e := by
  simp [setChannel, channel, Fin.val_ne_of_ne h]
@[simp] theorem State.setZone_zone (z : Fin 31) (x : Zone) : (s.setZone z x).zone z = x := by simp [setZone, zone]
theorem State.setZone_zone_ne {z y : Fin 31} (h : z ≠ y) (x : Zone) : (s.setZone z x).zone y = s.zone y := by
  simp [setZone, zone, Fin.val_ne_of_ne h]
@[simp] theorem State.setRelay_relay (r : Fin 4) (x : Relay) : (s.setRelay r x).relay r = x := by simp [setRelay, relay]
theorem State.setRelay_relay_ne {r k : Fin 4} (h : r ≠ k) (x : Relay) : (s.setRelay r x).relay k = s.relay k := by
  simp [setRelay, relay, Fin.val_ne_of_ne h]
@[simp] theorem State.setSegment_segment (g : Fin 16) (x : Segment) : (s.setSegment g x).segment g = x := by
  simp [setSegment, setHlc, segment]
theorem State.setSegment_segment_ne {g i : Fin 16} (h : g ≠ i) (x : Segment) :
    (s.setSegment g x).segment i = s.segment i := by
  simp [setSegment, setHlc, segment, Fin.val_ne_of_ne h]

/-! ## Readers that an update leaves -/

@[simp] theorem State.setTrunk_spur (p : TPort) (t : TrunkPort) (n' : Fin 6) : (s.setTrunk p t).spur n' = s.spur n' := by cases p <;> rfl
@[simp] theorem State.setTrunk_queue (p : TPort) (t : TrunkPort) (q' : Fin 9) : (s.setTrunk p t).queue q' = s.queue q' := by cases p <;> rfl
@[simp] theorem State.setTrunk_channel (p : TPort) (t : TrunkPort) (c' : Fin 48) : (s.setTrunk p t).channel c' = s.channel c' := by cases p <;> rfl
@[simp] theorem State.setTrunk_zone (p : TPort) (t : TrunkPort) (z' : Fin 31) : (s.setTrunk p t).zone z' = s.zone z' := by cases p <;> rfl
@[simp] theorem State.setTrunk_relay (p : TPort) (t : TrunkPort) (r' : Fin 4) : (s.setTrunk p t).relay r' = s.relay r' := by cases p <;> rfl
@[simp] theorem State.setTrunk_segment (p : TPort) (t : TrunkPort) (g' : Fin 16) : (s.setTrunk p t).segment g' = s.segment g' := by cases p <;> rfl
@[simp] theorem State.setTrunk_bank (p : TPort) (t : TrunkPort) (k' : Fin 4) : (s.setTrunk p t).bank k' = s.bank k' := by cases p <;> rfl
@[simp] theorem State.setSpur_queue (n : Fin 6) (x : SpurPort) (q' : Fin 9) : (s.setSpur n x).queue q' = s.queue q' := rfl
@[simp] theorem State.setSpur_channel (n : Fin 6) (x : SpurPort) (c' : Fin 48) : (s.setSpur n x).channel c' = s.channel c' := rfl
@[simp] theorem State.setSpur_zone (n : Fin 6) (x : SpurPort) (z' : Fin 31) : (s.setSpur n x).zone z' = s.zone z' := rfl
@[simp] theorem State.setSpur_relay (n : Fin 6) (x : SpurPort) (r' : Fin 4) : (s.setSpur n x).relay r' = s.relay r' := rfl
@[simp] theorem State.setSpur_segment (n : Fin 6) (x : SpurPort) (g' : Fin 16) : (s.setSpur n x).segment g' = s.segment g' := rfl
@[simp] theorem State.setSpur_bank (n : Fin 6) (x : SpurPort) (k' : Fin 4) : (s.setSpur n x).bank k' = s.bank k' := rfl
@[simp] theorem State.setSpur_trunk (n : Fin 6) (x : SpurPort) (p' : TPort) : (s.setSpur n x).trunk p' = s.trunk p' := by cases p' <;> rfl
@[simp] theorem State.setQueue_spur (q : Fin 9) (x : Queue) (n' : Fin 6) : (s.setQueue q x).spur n' = s.spur n' := rfl
@[simp] theorem State.setQueue_channel (q : Fin 9) (x : Queue) (c' : Fin 48) : (s.setQueue q x).channel c' = s.channel c' := rfl
@[simp] theorem State.setQueue_zone (q : Fin 9) (x : Queue) (z' : Fin 31) : (s.setQueue q x).zone z' = s.zone z' := rfl
@[simp] theorem State.setQueue_relay (q : Fin 9) (x : Queue) (r' : Fin 4) : (s.setQueue q x).relay r' = s.relay r' := rfl
@[simp] theorem State.setQueue_segment (q : Fin 9) (x : Queue) (g' : Fin 16) : (s.setQueue q x).segment g' = s.segment g' := rfl
@[simp] theorem State.setQueue_bank (q : Fin 9) (x : Queue) (k' : Fin 4) : (s.setQueue q x).bank k' = s.bank k' := rfl
@[simp] theorem State.setQueue_trunk (q : Fin 9) (x : Queue) (p' : TPort) : (s.setQueue q x).trunk p' = s.trunk p' := by cases p' <;> rfl
@[simp] theorem State.setFbf_spur (x : Buffer) (n' : Fin 6) : (s.setFbf x).spur n' = s.spur n' := rfl
@[simp] theorem State.setFbf_queue (x : Buffer) (q' : Fin 9) : (s.setFbf x).queue q' = s.queue q' := rfl
@[simp] theorem State.setFbf_channel (x : Buffer) (c' : Fin 48) : (s.setFbf x).channel c' = s.channel c' := rfl
@[simp] theorem State.setFbf_zone (x : Buffer) (z' : Fin 31) : (s.setFbf x).zone z' = s.zone z' := rfl
@[simp] theorem State.setFbf_relay (x : Buffer) (r' : Fin 4) : (s.setFbf x).relay r' = s.relay r' := rfl
@[simp] theorem State.setFbf_segment (x : Buffer) (g' : Fin 16) : (s.setFbf x).segment g' = s.segment g' := rfl
@[simp] theorem State.setFbf_trunk (x : Buffer) (p' : TPort) : (s.setFbf x).trunk p' = s.trunk p' := by cases p' <;> rfl
@[simp] theorem State.setBank_spur (k : Fin 4) (x : Bank) (n' : Fin 6) : (s.setBank k x).spur n' = s.spur n' := rfl
@[simp] theorem State.setBank_queue (k : Fin 4) (x : Bank) (q' : Fin 9) : (s.setBank k x).queue q' = s.queue q' := rfl
@[simp] theorem State.setBank_channel (k : Fin 4) (x : Bank) (c' : Fin 48) : (s.setBank k x).channel c' = s.channel c' := rfl
@[simp] theorem State.setBank_zone (k : Fin 4) (x : Bank) (z' : Fin 31) : (s.setBank k x).zone z' = s.zone z' := rfl
@[simp] theorem State.setBank_relay (k : Fin 4) (x : Bank) (r' : Fin 4) : (s.setBank k x).relay r' = s.relay r' := rfl
@[simp] theorem State.setBank_segment (k : Fin 4) (x : Bank) (g' : Fin 16) : (s.setBank k x).segment g' = s.segment g' := rfl
@[simp] theorem State.setBank_trunk (k : Fin 4) (x : Bank) (p' : TPort) : (s.setBank k x).trunk p' = s.trunk p' := by cases p' <;> rfl
@[simp] theorem State.setChannel_spur (c : Fin 48) (x : Channel) (n' : Fin 6) : (s.setChannel c x).spur n' = s.spur n' := rfl
@[simp] theorem State.setChannel_queue (c : Fin 48) (x : Channel) (q' : Fin 9) : (s.setChannel c x).queue q' = s.queue q' := rfl
@[simp] theorem State.setChannel_zone (c : Fin 48) (x : Channel) (z' : Fin 31) : (s.setChannel c x).zone z' = s.zone z' := rfl
@[simp] theorem State.setChannel_relay (c : Fin 48) (x : Channel) (r' : Fin 4) : (s.setChannel c x).relay r' = s.relay r' := rfl
@[simp] theorem State.setChannel_segment (c : Fin 48) (x : Channel) (g' : Fin 16) : (s.setChannel c x).segment g' = s.segment g' := rfl
@[simp] theorem State.setChannel_bank (c : Fin 48) (x : Channel) (k' : Fin 4) : (s.setChannel c x).bank k' = s.bank k' := rfl
@[simp] theorem State.setChannel_trunk (c : Fin 48) (x : Channel) (p' : TPort) : (s.setChannel c x).trunk p' = s.trunk p' := by cases p' <;> rfl
@[simp] theorem State.setZone_spur (z : Fin 31) (x : Zone) (n' : Fin 6) : (s.setZone z x).spur n' = s.spur n' := rfl
@[simp] theorem State.setZone_queue (z : Fin 31) (x : Zone) (q' : Fin 9) : (s.setZone z x).queue q' = s.queue q' := rfl
@[simp] theorem State.setZone_channel (z : Fin 31) (x : Zone) (c' : Fin 48) : (s.setZone z x).channel c' = s.channel c' := rfl
@[simp] theorem State.setZone_relay (z : Fin 31) (x : Zone) (r' : Fin 4) : (s.setZone z x).relay r' = s.relay r' := rfl
@[simp] theorem State.setZone_segment (z : Fin 31) (x : Zone) (g' : Fin 16) : (s.setZone z x).segment g' = s.segment g' := rfl
@[simp] theorem State.setZone_bank (z : Fin 31) (x : Zone) (k' : Fin 4) : (s.setZone z x).bank k' = s.bank k' := rfl
@[simp] theorem State.setZone_trunk (z : Fin 31) (x : Zone) (p' : TPort) : (s.setZone z x).trunk p' = s.trunk p' := by cases p' <;> rfl
@[simp] theorem State.setRelay_spur (r : Fin 4) (x : Relay) (n' : Fin 6) : (s.setRelay r x).spur n' = s.spur n' := rfl
@[simp] theorem State.setRelay_queue (r : Fin 4) (x : Relay) (q' : Fin 9) : (s.setRelay r x).queue q' = s.queue q' := rfl
@[simp] theorem State.setRelay_channel (r : Fin 4) (x : Relay) (c' : Fin 48) : (s.setRelay r x).channel c' = s.channel c' := rfl
@[simp] theorem State.setRelay_zone (r : Fin 4) (x : Relay) (z' : Fin 31) : (s.setRelay r x).zone z' = s.zone z' := rfl
@[simp] theorem State.setRelay_segment (r : Fin 4) (x : Relay) (g' : Fin 16) : (s.setRelay r x).segment g' = s.segment g' := rfl
@[simp] theorem State.setRelay_bank (r : Fin 4) (x : Relay) (k' : Fin 4) : (s.setRelay r x).bank k' = s.bank k' := rfl
@[simp] theorem State.setRelay_trunk (r : Fin 4) (x : Relay) (p' : TPort) : (s.setRelay r x).trunk p' = s.trunk p' := by cases p' <;> rfl
@[simp] theorem State.setHlc_spur (x : HaulControl) (n' : Fin 6) : (s.setHlc x).spur n' = s.spur n' := rfl
@[simp] theorem State.setHlc_queue (x : HaulControl) (q' : Fin 9) : (s.setHlc x).queue q' = s.queue q' := rfl
@[simp] theorem State.setHlc_channel (x : HaulControl) (c' : Fin 48) : (s.setHlc x).channel c' = s.channel c' := rfl
@[simp] theorem State.setHlc_zone (x : HaulControl) (z' : Fin 31) : (s.setHlc x).zone z' = s.zone z' := rfl
@[simp] theorem State.setHlc_relay (x : HaulControl) (r' : Fin 4) : (s.setHlc x).relay r' = s.relay r' := rfl
@[simp] theorem State.setHlc_bank (x : HaulControl) (k' : Fin 4) : (s.setHlc x).bank k' = s.bank k' := rfl
@[simp] theorem State.setHlc_trunk (x : HaulControl) (p' : TPort) : (s.setHlc x).trunk p' = s.trunk p' := by cases p' <;> rfl
@[simp] theorem State.setSegment_spur (g : Fin 16) (x : Segment) (n' : Fin 6) : (s.setSegment g x).spur n' = s.spur n' := rfl
@[simp] theorem State.setSegment_queue (g : Fin 16) (x : Segment) (q' : Fin 9) : (s.setSegment g x).queue q' = s.queue q' := rfl
@[simp] theorem State.setSegment_channel (g : Fin 16) (x : Segment) (c' : Fin 48) : (s.setSegment g x).channel c' = s.channel c' := rfl
@[simp] theorem State.setSegment_zone (g : Fin 16) (x : Segment) (z' : Fin 31) : (s.setSegment g x).zone z' = s.zone z' := rfl
@[simp] theorem State.setSegment_relay (g : Fin 16) (x : Segment) (r' : Fin 4) : (s.setSegment g x).relay r' = s.relay r' := rfl
@[simp] theorem State.setSegment_bank (g : Fin 16) (x : Segment) (k' : Fin 4) : (s.setSegment g x).bank k' = s.bank k' := rfl
@[simp] theorem State.setSegment_trunk (g : Fin 16) (x : Segment) (p' : TPort) : (s.setSegment g x).trunk p' = s.trunk p' := by cases p' <;> rfl
@[simp] theorem State.setTrucks_spur (x : List Truck) (n' : Fin 6) : (s.setTrucks x).spur n' = s.spur n' := rfl
@[simp] theorem State.setTrucks_queue (x : List Truck) (q' : Fin 9) : (s.setTrucks x).queue q' = s.queue q' := rfl
@[simp] theorem State.setTrucks_channel (x : List Truck) (c' : Fin 48) : (s.setTrucks x).channel c' = s.channel c' := rfl
@[simp] theorem State.setTrucks_zone (x : List Truck) (z' : Fin 31) : (s.setTrucks x).zone z' = s.zone z' := rfl
@[simp] theorem State.setTrucks_relay (x : List Truck) (r' : Fin 4) : (s.setTrucks x).relay r' = s.relay r' := rfl
@[simp] theorem State.setTrucks_bank (x : List Truck) (k' : Fin 4) : (s.setTrucks x).bank k' = s.bank k' := rfl
@[simp] theorem State.setTrucks_trunk (x : List Truck) (p' : TPort) : (s.setTrucks x).trunk p' = s.trunk p' := by cases p' <;> rfl
@[simp] theorem State.setCls_spur (x : Classifier) (n' : Fin 6) : (s.setCls x).spur n' = s.spur n' := rfl
@[simp] theorem State.setCls_queue (x : Classifier) (q' : Fin 9) : (s.setCls x).queue q' = s.queue q' := rfl
@[simp] theorem State.setCls_channel (x : Classifier) (c' : Fin 48) : (s.setCls x).channel c' = s.channel c' := rfl
@[simp] theorem State.setCls_zone (x : Classifier) (z' : Fin 31) : (s.setCls x).zone z' = s.zone z' := rfl
@[simp] theorem State.setCls_relay (x : Classifier) (r' : Fin 4) : (s.setCls x).relay r' = s.relay r' := rfl
@[simp] theorem State.setCls_segment (x : Classifier) (g' : Fin 16) : (s.setCls x).segment g' = s.segment g' := rfl
@[simp] theorem State.setCls_bank (x : Classifier) (k' : Fin 4) : (s.setCls x).bank k' = s.bank k' := rfl
@[simp] theorem State.setCls_trunk (x : Classifier) (p' : TPort) : (s.setCls x).trunk p' = s.trunk p' := by cases p' <;> rfl
@[simp] theorem State.setCsw_spur (x : CallSwitch) (n' : Fin 6) : (s.setCsw x).spur n' = s.spur n' := rfl
@[simp] theorem State.setCsw_queue (x : CallSwitch) (q' : Fin 9) : (s.setCsw x).queue q' = s.queue q' := rfl
@[simp] theorem State.setCsw_channel (x : CallSwitch) (c' : Fin 48) : (s.setCsw x).channel c' = s.channel c' := rfl
@[simp] theorem State.setCsw_zone (x : CallSwitch) (z' : Fin 31) : (s.setCsw x).zone z' = s.zone z' := rfl
@[simp] theorem State.setCsw_relay (x : CallSwitch) (r' : Fin 4) : (s.setCsw x).relay r' = s.relay r' := rfl
@[simp] theorem State.setCsw_segment (x : CallSwitch) (g' : Fin 16) : (s.setCsw x).segment g' = s.segment g' := rfl
@[simp] theorem State.setCsw_bank (x : CallSwitch) (k' : Fin 4) : (s.setCsw x).bank k' = s.bank k' := rfl
@[simp] theorem State.setCsw_trunk (x : CallSwitch) (p' : TPort) : (s.setCsw x).trunk p' = s.trunk p' := by cases p' <;> rfl
@[simp] theorem State.setAlc_spur (x : AlarmControl) (n' : Fin 6) : (s.setAlc x).spur n' = s.spur n' := rfl
@[simp] theorem State.setAlc_queue (x : AlarmControl) (q' : Fin 9) : (s.setAlc x).queue q' = s.queue q' := rfl
@[simp] theorem State.setAlc_channel (x : AlarmControl) (c' : Fin 48) : (s.setAlc x).channel c' = s.channel c' := rfl
@[simp] theorem State.setAlc_zone (x : AlarmControl) (z' : Fin 31) : (s.setAlc x).zone z' = s.zone z' := rfl
@[simp] theorem State.setAlc_relay (x : AlarmControl) (r' : Fin 4) : (s.setAlc x).relay r' = s.relay r' := rfl
@[simp] theorem State.setAlc_segment (x : AlarmControl) (g' : Fin 16) : (s.setAlc x).segment g' = s.segment g' := rfl
@[simp] theorem State.setAlc_bank (x : AlarmControl) (k' : Fin 4) : (s.setAlc x).bank k' = s.bank k' := rfl
@[simp] theorem State.setAlc_trunk (x : AlarmControl) (p' : TPort) : (s.setAlc x).trunk p' = s.trunk p' := by cases p' <;> rfl
@[simp] theorem State.setMge_spur (x : Manager) (n' : Fin 6) : (s.setMge x).spur n' = s.spur n' := rfl
@[simp] theorem State.setMge_queue (x : Manager) (q' : Fin 9) : (s.setMge x).queue q' = s.queue q' := rfl
@[simp] theorem State.setMge_channel (x : Manager) (c' : Fin 48) : (s.setMge x).channel c' = s.channel c' := rfl
@[simp] theorem State.setMge_zone (x : Manager) (z' : Fin 31) : (s.setMge x).zone z' = s.zone z' := rfl
@[simp] theorem State.setMge_relay (x : Manager) (r' : Fin 4) : (s.setMge x).relay r' = s.relay r' := rfl
@[simp] theorem State.setMge_segment (x : Manager) (g' : Fin 16) : (s.setMge x).segment g' = s.segment g' := rfl
@[simp] theorem State.setMge_bank (x : Manager) (k' : Fin 4) : (s.setMge x).bank k' = s.bank k' := rfl
@[simp] theorem State.setMge_trunk (x : Manager) (p' : TPort) : (s.setMge x).trunk p' = s.trunk p' := by cases p' <;> rfl
@[simp] theorem State.setCfl_spur (x : Loader) (n' : Fin 6) : (s.setCfl x).spur n' = s.spur n' := rfl
@[simp] theorem State.setCfl_queue (x : Loader) (q' : Fin 9) : (s.setCfl x).queue q' = s.queue q' := rfl
@[simp] theorem State.setCfl_channel (x : Loader) (c' : Fin 48) : (s.setCfl x).channel c' = s.channel c' := rfl
@[simp] theorem State.setCfl_zone (x : Loader) (z' : Fin 31) : (s.setCfl x).zone z' = s.zone z' := rfl
@[simp] theorem State.setCfl_relay (x : Loader) (r' : Fin 4) : (s.setCfl x).relay r' = s.relay r' := rfl
@[simp] theorem State.setCfl_segment (x : Loader) (g' : Fin 16) : (s.setCfl x).segment g' = s.segment g' := rfl
@[simp] theorem State.setCfl_bank (x : Loader) (k' : Fin 4) : (s.setCfl x).bank k' = s.bank k' := rfl
@[simp] theorem State.setCfl_trunk (x : Loader) (p' : TPort) : (s.setCfl x).trunk p' = s.trunk p' := by cases p' <;> rfl
@[simp] theorem State.setBroadcasts_spur (x : List BroadcastEntry) (n' : Fin 6) : (s.setBroadcasts x).spur n' = s.spur n' := rfl
@[simp] theorem State.setBroadcasts_queue (x : List BroadcastEntry) (q' : Fin 9) : (s.setBroadcasts x).queue q' = s.queue q' := rfl
@[simp] theorem State.setBroadcasts_channel (x : List BroadcastEntry) (c' : Fin 48) : (s.setBroadcasts x).channel c' = s.channel c' := rfl
@[simp] theorem State.setBroadcasts_zone (x : List BroadcastEntry) (z' : Fin 31) : (s.setBroadcasts x).zone z' = s.zone z' := rfl
@[simp] theorem State.setBroadcasts_relay (x : List BroadcastEntry) (r' : Fin 4) : (s.setBroadcasts x).relay r' = s.relay r' := rfl
@[simp] theorem State.setBroadcasts_segment (x : List BroadcastEntry) (g' : Fin 16) : (s.setBroadcasts x).segment g' = s.segment g' := rfl
@[simp] theorem State.setBroadcasts_bank (x : List BroadcastEntry) (k' : Fin 4) : (s.setBroadcasts x).bank k' = s.bank k' := rfl
@[simp] theorem State.setBroadcasts_trunk (x : List BroadcastEntry) (p' : TPort) : (s.setBroadcasts x).trunk p' = s.trunk p' := by cases p' <;> rfl
@[simp] theorem State.setPending_spur (x : List Instr) (n' : Fin 6) : (s.setPending x).spur n' = s.spur n' := rfl
@[simp] theorem State.setPending_queue (x : List Instr) (q' : Fin 9) : (s.setPending x).queue q' = s.queue q' := rfl
@[simp] theorem State.setPending_channel (x : List Instr) (c' : Fin 48) : (s.setPending x).channel c' = s.channel c' := rfl
@[simp] theorem State.setPending_zone (x : List Instr) (z' : Fin 31) : (s.setPending x).zone z' = s.zone z' := rfl
@[simp] theorem State.setPending_relay (x : List Instr) (r' : Fin 4) : (s.setPending x).relay r' = s.relay r' := rfl
@[simp] theorem State.setPending_segment (x : List Instr) (g' : Fin 16) : (s.setPending x).segment g' = s.segment g' := rfl
@[simp] theorem State.setPending_bank (x : List Instr) (k' : Fin 4) : (s.setPending x).bank k' = s.bank k' := rfl
@[simp] theorem State.setPending_trunk (x : List Instr) (p' : TPort) : (s.setPending x).trunk p' = s.trunk p' := by cases p' <;> rfl
@[simp] theorem State.raise_spur (e : EventKind) (n' : Fin 6) : (s.raise e).spur n' = s.spur n' := rfl
@[simp] theorem State.raise_queue (e : EventKind) (q' : Fin 9) : (s.raise e).queue q' = s.queue q' := rfl
@[simp] theorem State.raise_channel (e : EventKind) (c' : Fin 48) : (s.raise e).channel c' = s.channel c' := rfl
@[simp] theorem State.raise_zone (e : EventKind) (z' : Fin 31) : (s.raise e).zone z' = s.zone z' := rfl
@[simp] theorem State.raise_relay (e : EventKind) (r' : Fin 4) : (s.raise e).relay r' = s.relay r' := rfl
@[simp] theorem State.raise_segment (e : EventKind) (g' : Fin 16) : (s.raise e).segment g' = s.segment g' := rfl
@[simp] theorem State.raise_bank (e : EventKind) (k' : Fin 4) : (s.raise e).bank k' = s.bank k' := rfl
@[simp] theorem State.raise_trunk (e : EventKind) (p' : TPort) : (s.raise e).trunk p' = s.trunk p' := by cases p' <;> rfl

end Sys2Proof.Machine
end

