-- ==== Sys2Proof/Laws/Quiet.lean ====
section
/-! SUPPORT. What the operations that carry frames change: the traffic and nothing else (State.quiet). One lemma per operation. -/

namespace Sys2Proof.Machine

/-- A fold of an operation that keeps a view keeps it. -/
theorem foldl_keeps {α β : Type} (view : State → β) (f : State → α → State) (h : ∀ s a, view (f s a) = view s)
    (l : List α) (s : State) : view (l.foldl f s) = view s := by
  induction l generalizing s with
  | nil => rfl
  | cons a l ih => simp [ih, h]

/-- The same for a fold that carries something beside the state. -/
theorem foldl_keeps_snd {α β γ : Type} (view : State → β) (f : γ × State → α → γ × State)
    (h : ∀ x a, view (f x a).2 = view x.2) (l : List α) (x : γ × State) : view (l.foldl f x).2 = view x.2 := by
  induction l generalizing x with
  | nil => rfl
  | cons a l ih => simp [ih, h]

/-! ## Updates -/

@[simp] theorem State.quiet_quiet (s : State) : s.quiet.quiet = s.quiet := rfl
@[simp] theorem State.raise_quiet (s : State) (e : EventKind) : (s.raise e).quiet = s.quiet := rfl
@[simp] theorem State.setFbf_quiet (s : State) (b : Buffer) : (s.setFbf b).quiet = s.quiet := rfl
@[simp] theorem State.setBank_quiet (s : State) (k : Fin 4) (b : Bank) : (s.setBank k b).quiet = s.quiet := rfl
@[simp] theorem State.setQueue_quiet (s : State) (q : Fin 9) (x : Queue) : (s.setQueue q x).quiet = s.quiet := rfl

/-! ## The buffer -/

@[simp] theorem State.offer_quiet (s : State) (c : FrameClass) (n : Nat) : (s.offer c n).2.quiet = s.quiet := by
  simp only [offer]; split <;> simp

@[simp] theorem State.store_quiet (s : State) (f : Stored) : (s.store f).2.quiet = s.quiet := by
  have h := s.offer_quiet f.body.cls (blocksFor f.body.size)
  simp only [store]; split <;> simp_all

@[simp] theorem State.reserveRecompute_quiet (s : State) : s.reserveRecompute.quiet = s.quiet := rfl

@[simp] theorem State.retiredTest_quiet (s : State) (k : Fin 4) : (s.retiredTest k).quiet = s.quiet := by
  simp only [retiredTest]; split <;> simp

@[simp] theorem State.free_quiet (s : State) (l : List Nat) : (s.free l).quiet = s.quiet := by
  simp [free, foldl_keeps State.quiet State.retiredTest]

@[simp] theorem State.upsets_quiet (s : State) (u : Upsets) : (s.upsets u).quiet = s.quiet := rfl

/-! ## The queues -/

@[simp] theorem State.discardPushed_quiet (s : State) (f : Stored) : (s.discardPushed f).quiet = s.quiet := by
  simp [discardPushed]

@[simp] theorem State.place_quiet (s : State) (q : Fin 9) (f : Stored) : (s.place q f).2.quiet = s.quiet := by
  simp only [place]; split <;> simp [foldl_keeps State.quiet State.discardPushed]

@[simp] theorem State.enqueue_quiet (s : State) (q : Fin 9) (f : Stored) : (s.enqueue q f).quiet = s.quiet := by
  have h := s.place_quiet q f
  simp only [enqueue]; split <;> simp_all

@[simp] theorem State.noRoute_quiet (s : State) (f : Stored) : (s.noRoute f).quiet = s.quiet := by simp [noRoute]

@[simp] theorem State.unqueue_quiet (s : State) (q : Fin 9) (f : Stored) : (s.unqueue q f).quiet = s.quiet := by
  simp [unqueue]

@[simp] theorem State.discardStale_quiet (s : State) (q : Fin 9) (f : Stored) : (s.discardStale q f).quiet = s.quiet := by
  simp [discardStale]

/-! ## Ways on -/

@[simp] theorem State.spurTake_quiet (s : State) (n : Fin 6) (t : Target) (f : Stored) :
    (s.spurTake n t f).2.quiet = s.quiet := by
  simp only [spurTake]; split <;> simp

@[simp] theorem State.withBlocks_quiet (s : State) (f : Stored) : (s.withBlocks f).2.quiet = s.quiet := by
  simp only [withBlocks]; split <;> simp

@[simp] theorem State.copyTo_quiet (l : List (Fin 6)) (s : State) (f : Stored) : (s.copyTo f l).quiet = s.quiet := by
  induction l generalizing s f with
  | nil => simp [copyTo]
  | cons n l ih =>
    have h := s.withBlocks_quiet f
    simp only [copyTo]; split <;> simp_all

@[simp] theorem State.deliver_quiet (s : State) (f : Stored) (d : Frame) : (s.deliver f d).2.quiet = s.quiet := by
  have h := s.withBlocks_quiet f
  simp only [deliver]
  split
  · simp
  · split
    · split
      · split <;> simp_all
      · simp
    · split
      · split <;> simp_all
      · simp

@[simp] theorem State.trunkEnter_quiet (s : State) (f : Stored) (d : Frame) : (s.trunkEnter f d).2.quiet = s.quiet := by
  simp only [trunkEnter]; split <;> simp

@[simp] theorem State.originate_quiet (s : State) (d : Frame) (o : Origin) : (s.originate d o).2.quiet = s.quiet := by
  have h := s.store_quiet (.make (.drift d) d.level o)
  simp only [originate]
  split
  · simp_all
  · rename_i f s1 heq
    have h1 : s1.quiet = s.quiet := by simpa [heq] using h
    split
    · simp [h1]
    · have h2 := s1.trunkEnter_quiet f d
      split <;> simp_all

@[simp] theorem State.sendPage_quiet (s : State) (g : Fin 8) (v : PageValues) (n : Fin 6) (d : Fin 16) (l : Nat) (o : Origin) :
    (s.sendPage g v n d l o).2.quiet = s.quiet := by
  simp only [sendPage]
  split
  · rfl
  · have h := s.store_quiet (.make (.raw ((s.cls.pages[g]).build (v.value s.time))) l o)
    split <;> rename_i heq <;> rw [heq] at h <;> simpa using h

/-! ## The end of a step -/

@[simp] theorem State.sendNotices_quiet (s : State) (e : EventKind) : (s.sendNotices e).quiet = s.quiet := by
  simp only [sendNotices]
  exact foldl_keeps State.quiet (fun s a => (s.originate (s.notice e a) (.manage false)).2) (by simp) _ _

@[simp] theorem State.settleFor_quiet (k : Nat) (s : State) : (State.settleFor k s).quiet = s.quiet := by
  induction k generalizing s with
  | zero => rfl
  | succ k ih =>
    simp only [settleFor]
    split
    · rfl
    · rw [ih, sendNotices_quiet]; rfl

@[simp] theorem State.settle_quiet (s : State) : s.settle.quiet = s.quiet := by simp [settle]

/-! ## What a frame keeps, read off the view -/

theorem State.quiet_eq_iff {s t : State} : t.quiet = s.quiet ↔
    t.time = s.time ∧ t.tpe = s.tpe ∧ t.tpw = s.tpw ∧ t.broadcasts = s.broadcasts ∧ t.spurs = s.spurs ∧ t.cls = s.cls
      ∧ t.channels = s.channels ∧ t.zones = s.zones ∧ t.relays = s.relays ∧ t.csw = s.csw ∧ t.hlc = s.hlc ∧ t.alc = s.alc
      ∧ (t.mge.table = s.mge.table ∧ t.mge.restarting = s.mge.restarting) ∧ t.cfl = s.cfl ∧ t.pending = s.pending := by
  simp [quiet]

end Sys2Proof.Machine
end

