-- ==== Sys2Proof/Laws/Tables.lean ====
section
/-! SUPPORT. The maps over fixed-size tables, entry by entry. -/

namespace Sys2Proof

@[simp] theorem vmap_getElem {α β : Type} {n : Nat} (f : α → β) (v : Vector α n) (i : Nat) (h : i < n) :
    (vmap f v)[i] = f v[i] := by
  simp [vmap]

@[simp] theorem vmapIdx_getElem {α β : Type} {n : Nat} (f : Fin n → α → β) (v : Vector α n) (i : Nat) (h : i < n) :
    (vmapIdx f v)[i] = f ⟨i, h⟩ v[i] := by
  simp [vmapIdx]

@[simp] theorem vgen_getElem {α : Type} {n : Nat} (f : Fin n → α) (i : Nat) (h : i < n) : (vgen f)[i] = f ⟨i, h⟩ := by
  simp [vgen]

/-- A view of a table is kept when the entry replaced has the view of the old one. -/
theorem vmap_set {α β : Type} {n : Nat} (f : α → β) (v : Vector α n) (i : Nat) (x : α) (h : i < n) (e : f x = f v[i]) :
    vmap f (v.set i x h) = vmap f v := by
  ext j hj
  by_cases hij : i = j
  · subst hij; simp [e]
  · simp [hij]

/-- A view of a table is kept by a map that keeps each entry's view. -/
theorem vmap_vmapIdx {α β : Type} {n : Nat} (f : α → β) (g : Fin n → α → α) (v : Vector α n) (e : ∀ i x, f (g i x) = f x) :
    vmap f (vmapIdx g v) = vmap f v := by
  ext j hj
  simp [e]

/-- A view of a table is kept by a map that keeps each entry's view. -/
theorem vmap_vmap {α β : Type} {n : Nat} (f : α → β) (g : α → α) (v : Vector α n) (e : ∀ x, f (g x) = f x) :
    vmap f (vmap g v) = vmap f v := by
  ext j hj
  simp [e]

end Sys2Proof
end

