-- ==== Sys2Proof/Laws/Still.lean ====
section
/-! SUPPORT. What a change of the alarm list and all that it drives leaves alone (State.still): one lemma per operation. -/

namespace Sys2Proof.Machine

/-- Equal apart from the traffic is equal apart from what an alarm moves. -/
theorem State.still_of_quiet {s t : State} (h : t.quiet = s.quiet) : t.still = s.still :=
  (rfl : t.still = t.quiet.still).trans ((congrArg State.still h).trans rfl)

/-! ## Traffic -/

@[simp] theorem State.raise_still (s : State) (e : EventKind) : (s.raise e).still = s.still := rfl
@[simp] theorem State.free_still (s : State) (l : List Nat) : (s.free l).still = s.still := still_of_quiet (by simp)
@[simp] theorem State.setFbf_still (s : State) (b : Buffer) : (s.setFbf b).still = s.still := rfl
@[simp] theorem State.setBank_still (s : State) (k : Fin 4) (b : Bank) : (s.setBank k b).still = s.still := rfl
@[simp] theorem State.setQueue_still (s : State) (q : Fin 9) (x : Queue) : (s.setQueue q x).still = s.still := rfl
@[simp] theorem State.retiredTest_still (s : State) (k : Fin 4) : (s.retiredTest k).still = s.still := still_of_quiet (by simp)
@[simp] theorem State.store_still (s : State) (f : Stored) : (s.store f).2.still = s.still := still_of_quiet (by simp)
@[simp] theorem State.place_still (s : State) (q : Fin 9) (f : Stored) : (s.place q f).2.still = s.still :=
  still_of_quiet (by simp)
@[simp] theorem State.enqueue_still (s : State) (q : Fin 9) (f : Stored) : (s.enqueue q f).still = s.still :=
  still_of_quiet (by simp)
@[simp] theorem State.deliver_still (s : State) (f : Stored) (d : Frame) : (s.deliver f d).2.still = s.still :=
  still_of_quiet (by simp)
@[simp] theorem State.originate_still (s : State) (d : Frame) (o : Origin) : (s.originate d o).2.still = s.still :=
  still_of_quiet (by simp)
@[simp] theorem State.sendPage_still (s : State) (g : Fin 8) (v : PageValues) (n : Fin 6) (d : Fin 16) (l : Nat) (o : Origin) :
    (s.sendPage g v n d l o).2.still = s.still := still_of_quiet (by simp)
@[simp] theorem State.settle_still (s : State) : s.settle.still = s.still := still_of_quiet (by simp)
@[simp] theorem State.upsets_still (s : State) (u : Upsets) : (s.upsets u).still = s.still := rfl

/-! ## Haul control -/

theorem State.setHlc_still {s : State} {h : HaulControl} (e : h.still = s.hlc.still) : (s.setHlc h).still = s.still := by
  simp [still, quiet, setHlc, e]

@[simp] theorem State.setTrucks_still (s : State) (l : List Truck) : (s.setTrucks l).still = s.still :=
  setHlc_still rfl

theorem State.setSegment_still {s : State} {i : Fin 16} {g : Segment} (e : g.still = (s.segment i).still) :
    (s.setSegment i g).still = s.still := by
  refine setHlc_still ?_
  simp only [HaulControl.still]
  rw [vmap_set]
  exact e

@[simp] theorem State.modTruck_still (s : State) (id : Nat) (f : Truck → Truck) : (s.modTruck id f).still = s.still := by
  simp [modTruck]

@[simp] theorem State.truckTest_still (s : State) (id : Nat) : (s.truckTest id).still = s.still := by simp [truckTest]

@[simp] theorem State.refreshTruck_still (s : State) (id : Nat) (a : Addr) (c : Option ReplyCtx) :
    (s.refreshTruck id a c).still = s.still := by simp [refreshTruck]

@[simp] theorem State.answerNative_quiet (s : State) (t : Nat) (d : Addr) (a : Answer) :
    (s.answerNative t d a).quiet = s.quiet := by simp [answerNative]

@[simp] theorem State.answerPage_quiet (s : State) (t : Nat) (g : Fin 8) (n : Fin 6) (d : Fin 16) (k : Nat) (a : Answer) :
    (s.answerPage t g n d k a).quiet = s.quiet := by simp [answerPage]

@[simp] theorem State.answerRequest_quiet (s : State) (t : Nat) (c : Option ReplyCtx) (a : Addr) (x : Answer) :
    (s.answerRequest t c a x).quiet = s.quiet := by
  simp only [answerRequest]; split <;> simp

@[simp] theorem State.answerTruck_quiet (s : State) (t : Nat) (a : Answer) : (s.answerTruck t a).quiet = s.quiet := by
  simp only [answerTruck]
  split
  · rfl
  · split <;> simp

@[simp] theorem State.answerRequest_still (s : State) (t : Nat) (c : Option ReplyCtx) (a : Addr) (x : Answer) :
    (s.answerRequest t c a x).still = s.still := still_of_quiet (by simp)

@[simp] theorem State.answerTruck_still (s : State) (t : Nat) (a : Answer) : (s.answerTruck t a).still = s.still :=
  still_of_quiet (by simp)

@[simp] theorem State.grant_still (s : State) (i : Fin 16) (t : Nat) (d : Direction) : (s.grant i t d).still = s.still := by
  simp only [grant, modTruck_still]
  exact setSegment_still rfl

@[simp] theorem State.promoteFor_still (k : Nat) (i : Fin 16) (s : State) : (s.promoteFor k i).still = s.still := by
  induction k generalizing s with
  | zero => rfl
  | succ k ih =>
    simp only [promoteFor]
    split
    · split <;> simp [ih]
    · rfl

@[simp] theorem State.promote_still (s : State) (i : Fin 16) : (s.promote i).still = s.still := by simp [promote]

@[simp] theorem State.dismissWaiting_still (s : State) (i : Fin 16) (r : Nat) : (s.dismissWaiting i r).still = s.still := by
  simp only [dismissWaiting]
  rw [foldl_keeps State.still _ (by simp)]
  exact setSegment_still rfl

@[simp] theorem State.closeForGas_still (s : State) (i : Fin 16) : (s.closeForGas i).still = s.still := by
  simp only [closeForGas]
  rw [foldl_keeps State.still _ (by simp), dismissWaiting_still]
  exact setSegment_still rfl

@[simp] theorem State.closureTest_still (s : State) (i : Fin 16) : (s.closureTest i).still = s.still := by
  simp only [closureTest]; split <;> simp

@[simp] theorem State.reopenTest_still (s : State) (i : Fin 16) : (s.reopenTest i).still = s.still := by
  simp only [reopenTest]
  split
  · split
    · exact setSegment_still rfl
    · rw [promote_still]; exact setSegment_still rfl
  · rfl

@[simp] theorem State.closeZone_still (s : State) (z : Nat) : (s.closeZone z).still = s.still :=
  foldl_keeps State.still _ (by simp) _ _

@[simp] theorem State.reopenZone_still (s : State) (z : Nat) : (s.reopenZone z).still = s.still :=
  foldl_keeps State.still _ (by simp) _ _

@[simp] theorem State.haulTransition_still (s : State) (z : Nat) : (s.haulTransition z).still = s.still := by
  simp only [haulTransition]; split <;> simp

/-! ## Spur outputs -/

theorem State.setSpur_still {s : State} {n : Fin 6} {p : SpurPort} (e : p.still = (s.spur n).still) :
    (s.setSpur n p).still = s.still := by
  simp only [still, quiet, setSpur]
  rw [vmap_set]
  exact e

theorem SpurPort.setDrop_still {p : SpurPort} {d : Fin 16} {r : Drop} (e : r.still = p.drops[d].still) :
    (p.setDrop d r).still = p.still := by
  simp only [still, setDrop]
  rw [vmap_set]
  exact e

@[simp] theorem SpurPort.setSlot_still (p : SpurPort) (k : Fin 4) (x : Option Slot) : (p.setSlot k x).still = p.still := rfl

@[simp] theorem SpurPort.takeSlot_still (p : SpurPort) (k : Fin 4) (d : Fin 16) : (p.takeSlot k d).still = p.still := by
  simp only [takeSlot]
  exact (rfl : _ = (p.setDrop d _).still).trans (setDrop_still rfl)

@[simp] theorem SpurPort.takeSlots_still (p : SpurPort) : p.takeSlots.still = p.still := by
  simp only [takeSlots]
  generalize allFin 4 = l
  induction l generalizing p with
  | nil => rfl
  | cons k l ih =>
    simp only [List.foldl_cons]
    rw [ih]
    split <;> simp

@[simp] theorem Drop.settled_still (r : Drop) : r.settled.still = r.still := rfl

@[simp] theorem Drop.compare_still (r : Drop) : r.compare.still = r.still := by
  simp only [compare]; split <;> simp [still, settled]

@[simp] theorem Drop.rewrite_still (r : Drop) (m : BitVec 4) : (r.rewrite m).still = r.still := by
  simp only [rewrite]
  split
  · rfl
  · split
    · rfl
    · rw [compare_still]; rfl
    · rw [compare_still]; rfl
    · rfl
    · rw [compare_still]; rfl

@[simp] theorem SpurPort.rewriteMasks_still (p : SpurPort) (m : Fin 16 → BitVec 4) : (p.rewriteMasks m).still = p.still := by
  simp only [rewriteMasks, takeSlots_still]
  simp [still, vmap_vmapIdx]

@[simp] theorem State.masksRecompute_still (s : State) : s.masksRecompute.still = s.still := by
  simp [masksRecompute, still, quiet, vmap_vmapIdx]

/-! ## The alarm list -/

theorem State.setAlc_still {s : State} {a : AlarmControl} (e : a.still = s.alc.still) : (s.setAlc a).still = s.still := by
  simp [still, quiet, setAlc, e]

@[simp] theorem AlarmControl.drop_still (a : AlarmControl) (e : Alarm) : (a.drop e).still = a.still := rfl
@[simp] theorem AlarmControl.put_still (a : AlarmControl) (e f : Alarm) : (a.put e f).still = a.still := rfl
@[simp] theorem AlarmControl.insertNew_still (a : AlarmControl) (r : Raise) (t : Time) : (a.insertNew r t).still = a.still := rfl
@[simp] theorem AlarmControl.reraise_still (a : AlarmControl) (e : Alarm) (r : Raise) (t : Time) :
    (a.reraise e r t).still = a.still := rfl
@[simp] theorem AlarmControl.allDue_still (a : AlarmControl) : a.allDue.still = a.still := rfl
@[simp] theorem AlarmControl.cleared_still (a : AlarmControl) (k : AlarmKind) (n : Nat) : (a.cleared k n).still = a.still := by
  simp only [cleared]
  split
  · split
    · rfl
    · split <;> simp
  · rfl

@[simp] theorem State.listAlarm_still (s : State) (r : Raise) : (s.listAlarm r).still = s.still := by
  simp only [listAlarm]
  split
  · exact setAlc_still (by simp)
  · split
    · exact setAlc_still (by simp)
    · split
      · split
        · rw [raise_still]; exact setAlc_still (by simp)
        · exact setAlc_still (by simp)
      · simp

/-! ## Relays -/

theorem State.setRelay_still {s : State} {k : Fin 4} {r : Relay} (e : r.still = (s.relay k).still) :
    (s.setRelay k r).still = s.still := by
  simp only [still, quiet, setRelay]
  rw [vmap_set]
  exact e

@[simp] theorem Relay.compared_still (r : Relay) (t : Time) : (r.compared t).still = r.still := by
  simp only [compared]; split <;> rfl

@[simp] theorem State.relayRecompute_still (s : State) (k : Fin 4) : (s.relayRecompute k).2.still = s.still := by
  simp only [relayRecompute]
  split
  · rfl
  · exact setRelay_still ((Relay.compared_still _ _).trans rfl)

@[simp] theorem State.relaysRecompute_still (s : State) (c : Relay → Bool) : (s.relaysRecompute c).2.still = s.still := by
  simp only [relaysRecompute]
  refine foldl_keeps_snd State.still _ (fun acc k => ?_) _ _
  split <;> simp

/-! ## What the list drives -/

@[simp] theorem State.lockdownReport_still (s : State) (z a b : Nat) : (s.lockdownReport z a b).still = s.still := by
  simp only [lockdownReport]
  split
  · simp
  · split <;> simp

@[simp] theorem State.lockdownRecompute_still (s : State) : s.lockdownRecompute.still = s.still := by
  simp only [lockdownRecompute]
  rw [foldl_keeps State.still _ (by simp)]
  exact setAlc_still rfl

@[simp] theorem State.severityRecompute_still (s : State) : s.severityRecompute.still = s.still := by
  simp only [severityRecompute]
  split <;> (try rw [masksRecompute_still]) <;> rw [foldl_keeps State.still _ (fun s k => setAlc_still (by simp))] <;>
    rw [relaysRecompute_still] <;> exact setAlc_still rfl

@[simp] theorem State.driveOutputs_still (s : State) : s.driveOutputs.still = s.still := by simp [driveOutputs]

@[simp] theorem State.announceFailed_still (s : State) (n : Nat) : (s.announceFailed n).still = s.still := by
  simp only [announceFailed]
  split
  · split
    · rfl
    · exact setAlc_still (by simp)
  · rfl

@[simp] theorem State.announce_still (s : State) (e : Alarm) : (s.announce e).still = s.still := by
  simp only [announce]
  rw [foldl_keeps State.still]
  · exact setAlc_still (by simp)
  · intro s a
    split <;> simp

@[simp] theorem State.announceFirst_still (s : State) (e : Alarm) : (s.announceFirst e).still = s.still := by
  simp only [announceFirst, announce_still]
  exact setAlc_still rfl

@[simp] theorem State.offerPacer_still (s : State) : s.offerPacer.still = s.still := by
  simp only [offerPacer]
  split
  · split <;> simp
  · rfl

@[simp] theorem State.raiseAlarm_still (s : State) (k : AlarmKind) (n z : Nat) (d : Option DropRef) :
    (s.raiseAlarm k n z d).still = s.still := by
  simp [raiseAlarm]

@[simp] theorem State.clearAlarm_still (s : State) (k : AlarmKind) (n : Nat) : (s.clearAlarm k n).still = s.still := by
  simp only [clearAlarm]
  split
  · rfl
  · rw [offerPacer_still, driveOutputs_still]
    exact setAlc_still (by simp)

@[simp] theorem State.driveRelays_still (s : State) (c : Relay → Bool) : (s.driveRelays c).still = s.still := by
  simp only [driveRelays]
  rw [foldl_keeps State.still _ (by simp), relaysRecompute_still]

@[simp] theorem State.driveRelay_still (s : State) (k : Fin 4) : (s.driveRelay k).still = s.still := by
  simp only [driveRelay]
  split <;> simp

/-! ## Frames read from the buffer -/

@[simp] theorem State.enterRetiring_still (s : State) (k : Fin 4) (c : RetireCause) : (s.enterRetiring k c).still = s.still := by
  simp only [enterRetiring, retiredTest_still]
  split <;> simp

@[simp] theorem State.retireTest_still (s : State) (k : Fin 4) : (s.retireTest k).still = s.still := by
  simp only [retireTest]
  split
  · split <;> simp
  · rfl

@[simp] theorem State.readWord_still (s : State) (f : Stored) (i : Nat) : (s.readWord f i).2.still = s.still := by
  simp only [readWord]
  split
  · rfl
  · split
    · rfl
    · split <;> simp

@[simp] theorem State.readWords_still (f : Stored) (n i : Nat) (s : State) : (s.readWords f n i).2.still = s.still := by
  induction n generalizing s i with
  | zero => rfl
  | succ n ih =>
    have h := s.readWord_still f i
    simp only [readWords]
    split <;> rename_i e <;> rw [e] at h <;> simp_all

@[simp] theorem State.readFrame_still (s : State) (f : Stored) : (s.readFrame f).2.still = s.still := by simp [readFrame]

@[simp] theorem State.unqueue_still (s : State) (q : Fin 9) (f : Stored) : (s.unqueue q f).still = s.still :=
  still_of_quiet (by simp)

@[simp] theorem State.discardStale_still (s : State) (q : Fin 9) (f : Stored) : (s.discardStale q f).still = s.still :=
  still_of_quiet (by simp)

@[simp] theorem State.localTakeFor_still (k : Nat) (s : State) : (State.localTakeFor k s).2.still = s.still := by
  induction k generalizing s with
  | zero => rfl
  | succ k ih =>
    simp only [localTakeFor]
    split
    · rfl
    · rename_i f _
      split
      · simp [ih]
      · have h := (s.unqueue localQueue f).readFrame_still f
        split <;> rename_i e _ <;> simp_all

@[simp] theorem State.localTake_still (s : State) : s.localTake.2.still = s.still := by simp [localTake]

/-- An endpoint's step keeps a view that lies within `still` when its action does. -/
theorem State.takeRow_keeps {β : Type} (view : State → β) (hv : ∀ s t : State, t.still = s.still → view t = view s)
    (s : State) (st : Nat) (u : Upsets) (mine : Frame → Bool) (act : Stored → Frame → State → State)
    (h : ∀ f d s, view (act f d s) = view s) : view (s.takeRow st u mine act) = view s := by
  have k := (s.upsets u).localTake_still
  simp only [takeRow]
  split
  · rename_i f d s' e
    rw [e] at k
    split
    · rw [h, hv _ _ (by simpa using k)]
    · rfl
  · rename_i s' e
    rw [e] at k
    exact hv _ _ (by simpa using k)

@[simp] theorem State.egressTakeFor_still (k : Nat) (q : Fin 9) (s : State) : (State.egressTakeFor k q s).2.still = s.still := by
  induction k generalizing s with
  | zero => rfl
  | succ k ih =>
    simp only [egressTakeFor]
    split
    · rfl
    · rename_i f _ _
      split
      · simp [ih]
      · have h := (s.unqueue q f).readFrame_still f
        split <;> rename_i e <;> rw [e] at h <;> simp_all

@[simp] theorem State.egressTake_still (s : State) (q : Fin 9) : (s.egressTake q).2.still = s.still := by simp [egressTake]

end Sys2Proof.Machine
end

