-- ==== Sys2Proof/Laws/Base.lean ====
section
/-! SUPPORT. What the evaluation of a zone and the release of a circuit leave alone (State.base): one lemma per operation. And the
exact effect of a clean read and of an endpoint's taking of its next frame. -/

namespace Sys2Proof.Machine

/-- Equal apart from what an alarm moves is equal apart from what a zone's evaluation moves. -/
theorem State.base_of_still {s t : State} (h : t.still = s.still) : t.base = s.base :=
  congrArg (fun x : State => { x with
    zones := vmap Zone.still x.zones, csw := { circuits := [], nextId := x.csw.nextId }
    alc := { x.alc with zoneCopy := Vector.replicate 31 .clear } }) h

@[simp] theorem State.settle_base (s : State) : s.settle.base = s.base := base_of_still (by simp)
@[simp] theorem State.raise_base (s : State) (e : EventKind) : (s.raise e).base = s.base := rfl
@[simp] theorem State.originate_base (s : State) (d : Frame) (o : Origin) : (s.originate d o).2.base = s.base :=
  base_of_still (by simp)
@[simp] theorem State.raiseAlarm_base (s : State) (k : AlarmKind) (n z : Nat) (d : Option DropRef) :
    (s.raiseAlarm k n z d).base = s.base := base_of_still (by simp)
@[simp] theorem State.clearAlarm_base (s : State) (k : AlarmKind) (n : Nat) : (s.clearAlarm k n).base = s.base :=
  base_of_still (by simp)
@[simp] theorem State.driveRelays_base (s : State) (c : Relay → Bool) : (s.driveRelays c).base = s.base :=
  base_of_still (by simp)
@[simp] theorem State.haulTransition_base (s : State) (z : Nat) : (s.haulTransition z).base = s.base :=
  base_of_still (by simp)
@[simp] theorem State.reopenZone_base (s : State) (z : Nat) : (s.reopenZone z).base = s.base := base_of_still (by simp)

/-! ## Zones -/

theorem State.setZone_base {s : State} {z : Fin 31} {x : Zone} (e : x.still = (s.zone z).still) :
    (s.setZone z x).base = s.base := by
  simp only [base, still, quiet, setZone]
  rw [vmap_set]
  exact e

@[simp] theorem State.sendZoneReport_base (s : State) (z : Fin 31) : (s.sendZoneReport z).base = s.base := by
  simp only [sendZoneReport, originate_base]
  exact setZone_base rfl

@[simp] theorem State.escalate_base (s : State) (z : Nat) : (s.escalate z).base = s.base := rfl

theorem State.setZoneCopy_base (s : State) (v : Vector ZState 31) :
    (s.setAlc { s.alc with zoneCopy := v }).base = s.base := rfl

@[simp] theorem State.transition_base (s : State) (z : Fin 31) : (s.transition z).base = s.base := by
  simp [transition, setZoneCopy_base, apply_ite State.base]

@[simp] theorem State.gasAlarms_base (s : State) (z : Fin 31) (a b : Zone) : (s.gasAlarms z a b).base = s.base := by
  simp [gasAlarms, apply_ite State.base]

@[simp] theorem State.evaluate_base (s : State) (z : Fin 31) : (s.evaluate z).base = s.base := by
  simp only [evaluate, gasAlarms_base, apply_ite State.base, transition_base, driveRelays_base, sendZoneReport_base, ite_self]
  exact setZone_base rfl

@[simp] theorem State.handTo_base (s : State) (z : Nat) : (s.handTo z).base = s.base := by
  simp only [handTo]
  split <;> simp

/-! ## Circuits -/

@[simp] theorem State.callTrunk_quiet (s : State) (p : TPort) (m : CallMsg) (o : Origin) :
    (s.callTrunk p m o).2.quiet = s.quiet := by
  have h := s.store_quiet (.make (.drift (s.callFrame ⟨(s.trunk p).nb.node, 243⟩ m)) m.level o)
  simp only [callTrunk]
  split <;> rename_i e <;> rw [e] at h
  · simpa using h
  · split <;> simpa using h

@[simp] theorem State.callSpur_quiet (s : State) (n : Fin 6) (st : Nat) (m : CallMsg) (o : Origin) :
    (s.callSpur n st m o).2.quiet = s.quiet := by
  have h := s.store_quiet (.make (.drift (s.callFrame ⟨s.node, st⟩ m)) m.level o)
  simp only [callSpur]
  split <;> rename_i e <;> rw [e] at h
  · simpa using h
  · split <;> simpa using h

@[simp] theorem State.callSend_quiet (s : State) (p : PortId) (st : Nat) (m : CallMsg) (o : Origin) :
    (s.callSend p st m o).2.quiet = s.quiet := by
  simp only [callSend]; split <;> simp

@[simp] theorem State.circuitSend_quiet (s : State) (c : Circuit) (a : Bool) (k : Nat) (l : List Byte) :
    (s.circuitSend c a k l).2.quiet = s.quiet := by
  simp only [circuitSend]; split <;> simp

@[simp] theorem State.answerBack_quiet (s : State) (p : PortId) (st tag level cause : Nat) :
    (s.answerBack p st tag level cause).quiet = s.quiet := by
  simp [answerBack]

theorem State.setCsw_base {s : State} {x : CallSwitch} (e : x.nextId = s.csw.nextId) : (s.setCsw x).base = s.base := by
  simp [base, still, quiet, setCsw, e]

theorem State.base_of_quiet {s t : State} (h : t.quiet = s.quiet) : t.base = s.base := base_of_still (still_of_quiet h)

@[simp] theorem State.releaseCircuit_base (s : State) (c : Circuit) (k : Nat) (a b : Bool) :
    (s.releaseCircuit c k a b).base = s.base := by
  have h1 (x : State) (d : Bool) : (x.circuitSend c d 3 [byte k]).2.base = x.base := base_of_quiet (by simp)
  have h2 (x : State) : (x.setCsw { x.csw with circuits := x.csw.circuits.filter (·.id != c.id) }).base = x.base :=
    setCsw_base rfl
  simp [releaseCircuit, apply_ite State.base, h1, h2]

@[simp] theorem State.putCircuit_base (s : State) (c : Circuit) : (s.putCircuit c).base = s.base := setCsw_base rfl

@[simp] theorem State.callFailed_base (s : State) (id : Nat) (a : Bool) (k : Nat) : (s.callFailed id a k).base = s.base := by
  simp only [callFailed]
  split
  · split <;> simp
  · rfl

@[simp] theorem State.circuitPass_base (s : State) (c : Circuit) (a : Bool) (k : Nat) (l : List Byte) :
    (s.circuitPass c a k l).base = s.base := by
  have h : (s.circuitSend c a k l).2.base = s.base := base_of_quiet (by simp)
  simp only [circuitPass]
  split <;> simp [h]

@[simp] theorem State.pathLost_base (s : State) (p : PortId) : (s.pathLost p).base = s.base :=
  foldl_keeps State.base _ (by simp) _ _

@[simp] theorem State.callsRestart_base (s : State) : s.callsRestart.base = s.base :=
  foldl_keeps State.base _ (by simp) _ _

/-! ## Clean reads -/

theorem State.readWord_clean {s : State} {f : Stored} (h : s.fbf.cleanFor f = true) (i : Nat) : s.readWord f i = (true, s) := by
  simp only [readWord]
  split
  · rfl
  · rename_i b hb
    have hm : b ∈ f.blocks := List.mem_of_getElem? hb
    have : s.fbf.bad.find? (fun w => w.block == b && w.word == i % 16) = none := by
      rw [List.find?_eq_none]
      intro w hw
      have := List.all_eq_true.mp h w hw
      simp only [Bool.and_eq_true, beq_iff_eq, not_and]
      rintro rfl
      simp_all
    rw [this]

theorem State.readFrame_clean {s : State} {f : Stored} (h : s.fbf.cleanFor f = true) : s.readFrame f = (true, s) := by
  simp only [readFrame]
  generalize (f.body.size + 7) / 8 = n
  generalize 0 = i
  induction n generalizing i with
  | zero => rfl
  | succ n ih => simp [readWords, readWord_clean h, ih]

/-- R82, R73: what LOCAL's handing over of a frame that is read cleanly does. -/
theorem State.localTake_clean {s : State} {f : Stored} {d : Frame}
    (hf : (s.queue localQueue).frames.find? s.endpointReady = some f) (hb : f.body = .drift d)
    (hv : s.staleVoice f = false) (hc : s.fbf.cleanFor f = true) :
    s.localTake = (some (f, d), (s.unqueue localQueue f).free f.blocks) := by
  have hv' : (s.unqueue localQueue f).staleVoice f = false := hv
  have hr : (s.unqueue localQueue f).readFrame f = (true, s.unqueue localQueue f) := readFrame_clean hc
  simp [localTake, turns, localTakeFor, hf, hv', hr, hb, Body.frame?]

end Sys2Proof.Machine
end

