-- ==== Sys2Proof/Laws/Requests.lean ====
section
/-! SUPPORT. What the shared operations of the endpoints and queues come to, once: the taking of a frame, a request and its reply, a
command, an offer to the buffer, a place on a queue, the passing of a millisecond. -/

namespace Sys2Proof.Machine

/-- R74: errors that appear in the buffer change no queue. -/
theorem State.upsets_queue (s : State) (u : Upsets) (q : Fin 9) : (s.upsets u).queue q = s.queue q := rfl

/-- R82: the frame that LOCAL hands over next is the one its endpoint takes, and its blocks are free after it. -/
theorem State.localTake_hands {s : State} {u : Upsets} {st : Nat} {f : Stored} {d : Frame} (h : s.hands u st f d = true) :
    (s.upsets u).localTake = (some (f, d), s.taken u f) := by
  simp only [hands, Bool.and_eq_true, beq_iff_eq, Bool.not_eq_eq_eq_not, Bool.not_true] at h
  obtain ⟨⟨⟨⟨hf, -⟩, hb⟩, hv⟩, hc⟩ := h
  exact localTake_clean hf hb hv hc

/-- R82: the station of the frame that LOCAL hands over next. -/
theorem State.hands_station {s : State} {u : Upsets} {st : Nat} {f : Stored} {d : Frame} (h : s.hands u st f d = true) :
    f.station = st := by
  simp only [hands, Bool.and_eq_true, beq_iff_eq] at h
  exact h.1.1.1.2

/-- The taking of a frame changes the traffic only. -/
theorem State.taken_quiet (s : State) (u : Upsets) (f : Stored) : (s.taken u f).quiet = s.quiet := by simp [taken]

theorem State.quiet_table (s : State) : s.quiet.mge.table = s.mge.table := rfl

theorem State.table_of_quiet {s t : State} (h : t.quiet = s.quiet) : t.mge.table = s.mge.table := by
  rw [← quiet_table t, h, quiet_table]

/-- An authority holds after the taking of a frame as before it. -/
theorem State.taken_authorised (s : State) (u : Upsets) (f : Stored) (n : Addr) :
    (s.taken u f).authorised n = s.authorised n := by
  simp only [authorised, stations, table_of_quiet (taken_quiet s u f)]

/-- An endpoint's step when the frame handed to it is the row's. -/
theorem State.takeRow_hands {s : State} {u : Upsets} {st : Nat} {f : Stored} {d : Frame} {mine : Frame → Bool}
    {act : Stored → Frame → State → State} (h : s.hands u st f d = true) (hm : mine d = true) :
    s.takeRow st u mine act = act f d (s.taken u f) := by
  simp [takeRow, localTake_hands h, hands_station h, hm]

/-- An endpoint's step when the frame handed to it is another row's. -/
theorem State.takeRow_other {s : State} {u : Upsets} {st : Nat} {f : Stored} {d : Frame} {mine : Frame → Bool}
    {act : Stored → Frame → State → State} (h : s.hands u st f d = true) (hm : mine d = false) : s.takeRow st u mine act = s := by
  simp [takeRow, localTake_hands h, hm]

/-- R174: a request of an authorised source is carried out by its row. -/
theorem State.request_asks {s : State} {u : Upsets} {f : Stored} {d : Frame} {row : Instr} {act : Frame → State → State}
    (h : s.asks u f d row = true) : s.request u row act = act d (s.taken u f) := by
  simp only [asks, Bool.and_eq_true] at h
  obtain ⟨⟨⟨hr, hh⟩, hrow⟩, ha⟩ := h
  have : (s.taken u f).authorised d.src = true := (taken_authorised ..).trans ha
  rw [request, takeRow_hands (mine := fun d => localRow d [] == row) hh hrow]
  simp [this]

/-- R175: a request of another source is answered NOT_AUTHORISED, and changes nothing. -/
theorem State.request_refused {s : State} {u : Upsets} {f : Stored} {d : Frame} {row : Instr} {act : Frame → State → State}
    (h : s.hands u 0 f d = true) (hrow : (localRow d [] == row) = true)
    (ha : s.authorised d.src = false) : s.request u row act = (s.taken u f).reply d ⟨.notAuthorised, 0⟩ [] false := by
  have : (s.taken u f).authorised d.src = false := (taken_authorised ..).trans ha
  rw [request, takeRow_hands (mine := fun d => localRow d [] == row) h hrow]
  simp [this]

/-- R179: a command with its arguments answers what its rule gives. -/
theorem State.command_commands {s : State} {u : Upsets} {f : Stored} {d : Frame} {row : Instr} {n : Nat}
    {act : List Nat → State → CommandResult} (h : s.commands u f d row n = true) :
    s.command u row n act = done (match act (commandArgs d.payload) (s.taken u f) with
      | .error r => (s.taken u f).reply d r [] false
      | .ok (t, data) => t.reply d okStatus data false) := by
  simp only [commands, Bool.and_eq_true, decide_eq_true_eq] at h
  have hn : ¬(commandArgs d.payload).length < n := by omega
  cases hr : act (commandArgs d.payload) (s.taken u f) <;> simp [command, request_asks h.1, commandAct, hn, hr]

/-- A reply changes the traffic only, and so does the end of the step. -/
theorem State.reply_settle_quiet (s : State) (d : Frame) (r : Refused) (data : List Nat) (b : Bool) :
    (s.reply d r data b).settle.quiet = s.quiet := by simp [reply]

/-- A command that is refused is answered so, and nothing else changes. -/
theorem State.command_refuses {s : State} {u : Upsets} {f : Stored} {d : Frame} {row : Instr} {n : Nat} {r : Refused}
    {act : List Nat → State → CommandResult} (h : s.commands u f d row n = true)
    (ha : act (commandArgs d.payload) (s.taken u f) = .error r) :
    Answers (s.command u row n act) d r [] fun t => t.quiet = s.quiet :=
  ⟨s.taken u f, _, by rw [command_commands h, ha]; rfl, rfl, reply_settle_quiet .., taken_quiet ..⟩

/-- A command that is carried out is answered OK with its data, after its effect. -/
theorem State.command_answers {s s' : State} {u : Upsets} {f : Stored} {d : Frame} {row : Instr} {n : Nat} {data : List Nat}
    {act : List Nat → State → CommandResult} {p : State → Prop} (h : s.commands u f d row n = true)
    (ha : act (commandArgs d.payload) (s.taken u f) = .ok (s', data)) (hp : p s') :
    Answers (s.command u row n act) d okStatus data p :=
  ⟨s', _, by rw [command_commands h, ha]; rfl, rfl, reply_settle_quiet .., hp⟩

/-- R71: a frame offered whole is stored in blocks from the head of the pool, or refused with QUEUE_DISCARD. -/
theorem State.store_cases (s : State) (f : Stored) :
    (s.fbf.admits f.body.cls (blocksFor f.body.size) = true ∧
        s.store f = (some { f with blocks := s.fbf.free.take (blocksFor f.body.size) },
          s.setFbf (s.fbf.take (blocksFor f.body.size)).2))
      ∨ (s.fbf.admits f.body.cls (blocksFor f.body.size) = false ∧ s.store f = (none, s.raise .queueDiscard)) := by
  by_cases h : s.fbf.admits f.body.cls (blocksFor f.body.size) = true
  · exact .inl ⟨h, by simp [store, offer, h, Buffer.take]⟩
  · exact .inr ⟨by simpa using h, by simp [store, offer, h]⟩

theorem occupancy_reverse (fs : List Stored) : occupancy fs.reverse = occupancy fs := by simp [occupancy, List.sum_reverse]

theorem pushOut_fits {room level : Nat} {fs : List Stored} (h : occupancy fs ≤ room) : pushOut room level fs = (fs, []) := by
  cases fs with
  | nil => rfl
  | cons f rest => simp [pushOut, h]

/-- R80, R81: a frame for which a queue has room takes its place in it, and nothing is pushed out. -/
theorem State.place_room {s : State} {q : Fin 9} {f : Stored} (h : s.room q f.blocks.length = true) :
    s.place q f = (true, s.setQueue q { s.queue q with
      frames := insertByLevel { f with entry := some (f.entry.getD s.time) } (s.queue q).frames }) := by
  simp only [room, decide_eq_true_eq] at h
  have hp : pushOut (s.mge.table.queueLimits[q] - f.blocks.length) f.level (s.queue q).frames.reverse
      = ((s.queue q).frames.reverse, []) := pushOut_fits (by rw [occupancy_reverse]; omega)
  simp only [place]
  rw [if_neg (by omega), hp]
  simp

/-- R80: a frame joins its queue once, and the queue's frames stay. -/
theorem insertByLevel_perm (f : Stored) (fs : List Stored) : (insertByLevel f fs).Perm (f :: fs) := by
  induction fs with
  | nil => exact .refl _
  | cons g rest ih =>
    simp only [insertByLevel]
    split
    · exact (ih.cons g).trans (.swap f g rest)
    · exact .refl _

/-- R80: a queue in service order stays so when a frame joins it. -/
theorem insertByLevel_ordered {f : Stored} {fs : List Stored} (h : fs.Pairwise fun a b => b.level ≤ a.level) :
    (insertByLevel f fs).Pairwise fun a b => b.level ≤ a.level := by
  induction fs with
  | nil => simp [insertByLevel]
  | cons g rest ih =>
    obtain ⟨hg, hr⟩ := List.pairwise_cons.mp h
    simp only [insertByLevel]
    split
    · rename_i hle
      refine List.pairwise_cons.mpr ⟨fun x hx => ?_, ih hr⟩
      rcases List.mem_cons.mp ((insertByLevel_perm f rest).mem_iff.mp hx) with rfl | hx
      · exact hle
      · exact hg x hx
    · rename_i hlt
      refine List.pairwise_cons.mpr ⟨fun x hx => ?_, h⟩
      rcases List.mem_cons.mp hx with rfl | hx
      · omega
      · have := hg x hx; omega

/-! ## The passing of a millisecond, and the local copy of a broadcast -/

/-- R38: a hold-off is over at the millisecond that it names, and at no other. -/
@[simp] theorem Poll.lapse_holdOff (p : Poll) (now : Time) :
    (p.lapse now).holdOff = if p.holdOff = some now then none else p.holdOff := by
  simp only [lapse]; split <;> simp_all

/-- Of the poll nothing but its hold-off changes with the time. -/
@[simp] theorem Poll.lapse_rest (p : Poll) (now : Time) : { p.lapse now with holdOff := p.holdOff } = p := by
  simp only [lapse]; split <;> rfl

@[simp] theorem State.advance_time (s : State) : s.advance.time = s.time + 1 := rfl
@[simp] theorem State.advance_spur (s : State) (n : Fin 6) :
    s.advance.spur n = { s.spur n with poll := (s.spur n).poll.lapse (s.time + 1) } := by simp [advance, spur]

/-- R181, R38: a millisecond moves the time base and the spur ports' polls only. -/
theorem State.advance_rest (s : State) : { s.advance with time := s.time, spurs := s.spurs } = s := rfl

/-- R72: the local copy of a broadcast joins CLS's list or is lost, and nothing but the traffic changes with it. -/
theorem State.deliverCopy_quiet (s : State) (p : TPort) (f : Stored) : { s.deliverCopy p f with cls := s.cls }.quiet = s.quiet := by
  have h := s.withBlocks_quiet f
  simp only [deliverCopy]
  cases hw : s.withBlocks f with
  | mk g t =>
    rw [hw] at h
    cases g <;> simp_all [quiet, deliverTrunk, waitCls]

end Sys2Proof.Machine
end

