-- ==== Sys2Proof/WellFormed.lean ====
section
/-! DEFINITION. Which commands a sender can send: operands within the ranges the manual gives the numbers they name.
The meanings are total and do not lean on it. -/

namespace Sys2Proof

/-- The bytes of a saved configuration, end marker included (R183: "The total is 9,291 bytes"). -/
def saveBytes : Nat := 9291

/-- No word of the buffer is listed twice. -/
def Upsets.wf (u : Upsets) : Bool :=
  decide (u.map fun e => (e.block, e.word)).Nodup

/-- The operands of a command lie in the ranges of the things they name. -/
def Instr.wf : Instr → Bool
  | .powerOn saved => saved ≤ saveBytes
  | .configRecordApply none => true
  | .configRecordApply (some n) => n ≤ 3 + 2 * 255
  | .trunkSignalRise _ => true
  | .trunkSignalLoss _ => true
  | .trunkLockRise _ => true
  | .trunkLockLoss _ => true
  | .helloTimerExpiry _ => true
  | .helloReceive _ _ => true
  | .identTimerExpiry _ => true
  | .silenceTimerExpiry _ => true
  | .trunkFrameReceive _ _ => true
  | .broadcastMemoryAgeing => true
  | .trunkTransmitDone _ u => u.wf
  | .spurPresenceRise _ => true
  | .spurPresenceFall _ => true
  | .detectTimerExpiry _ => true
  | .describeTimerExpiry _ => true
  | .descriptorReceive _ _ => true
  | .readyReceive _ _ => true
  | .readyTimerExpiry _ => true
  | .spurOvercurrent _ _ => true
  | .spurFrameReceive _ _ => true
  | .spurTransmitDone _ u => u.wf
  | .outputConfirmReceive _ _ => true
  | .confirmTimerExpiry _ _ => true
  | .pollStart _ _ => true
  | .attnSummaryReceive _ _ => true
  | .queryTimerExpiry _ => true
  | .lineReportReceive _ _ => true
  | .reportTimerExpiry _ => true
  | .spurReset u => u.wf
  | .classifyFrame _ u => u.wf
  | .exchangeRuleset u => u.wf
  | .bankRetire u => u.wf
  | .bankRestore u => u.wf
  | .scrubTimerExpiry _ => true
  | .sampleReceive u => u.wf
  | .staleExpiry _ => true
  | .resetTrip u => u.wf
  | .inhibit u => u.wf
  | .endInhibit u => u.wf
  | .inhibitExpiry _ => true
  | .zoneReportPeriodic _ => true
  | .zoneReportReceive u => u.wf
  | .reporterAgeing _ node => 1 ≤ node && node ≤ 62
  | .forceZoneTrip u => u.wf
  | .releaseZoneForce u => u.wf
  | .clearReporter u => u.wf
  | .relayFeedbackChange _ _ => true
  | .mismatchTimerExpiry _ => true
  | .callSetupReceive u => u.wf
  | .callAlertReceive u => u.wf
  | .callConnectReceive u => u.wf
  | .callVoiceReceive u => u.wf
  | .callReleaseReceive u => u.wf
  | .circuitDeadlineExpiry id => 1 ≤ id && id ≤ 1023
  | .releaseCircuit u => u.wf
  | .entryRequestReceive u => u.wf
  | .haulClearReceive u => u.wf
  | .beaconReceive u => u.wf
  | .leaseExpiry _ truck => 1 ≤ truck && truck ≤ 4095
  | .waitExpiry _ truck => 1 ≤ truck && truck ≤ 4095
  | .truckEntryExpiry truck => 1 ≤ truck && truck ≤ 4095
  | .openSegment u => u.wf
  | .closeSegment u => u.wf
  | .releaseOccupant u => u.wf
  | .gapTimerExpiry => true
  | .fastRepeatExpiry => true
  | .slowRepeatExpiry => true
  | .ackAlarm u => u.wf
  | .postAlarm u => u.wf
  | .clearPosted u => u.wf
  | .alarmFrameDiscard u => u.wf
  | .read u => u.wf
  | .readTrunks u => u.wf
  | .writeNode u => u.wf
  | .writeWindows u => u.wf
  | .writeDirection u => u.wf
  | .writeRulesetA u => u.wf
  | .writeRulesetB u => u.wf
  | .writeReplyPages u => u.wf
  | .writeChannels u => u.wf
  | .writeZones u => u.wf
  | .writeRelays u => u.wf
  | .writeSegments u => u.wf
  | .writeRoster u => u.wf
  | .writeActions u => u.wf
  | .writeSpurs u => u.wf
  | .writeOther u => u.wf
  | .clearEvents u => u.wf
  | .save u => u.wf
  | .saveEnd none => true
  | .saveEnd (some n) => n < saveBytes
  | .restart u => u.wf
  | .restartFlush => true
  | .mgmtFrameDiscard u => u.wf
  | .badOperationRequest u => u.wf

end Sys2Proof
end

