-- ==== Sys2Proof/Tests/Slice0.lean ====
section
/-! SUPPORT. Tests: ill-formed commands are refused by each check of WellFormed; the manual's worked sequences, a step at a time; and,
for each statement with hypotheses, states and operands that meet them (`witness_…`). -/

namespace Sys2Proof.Tests

open Sys2Proof Sys2Proof.Machine

-- One theorem at a time: checked side by side, they take more threads than a box may start.
set_option Elab.async false

/-! ## Well-formedness: one ill-formed term for each check -/

def twice : Upsets := [⟨3, 5, false⟩, ⟨3, 5, true⟩]

theorem test_wf_powerOn : (Instr.powerOn 9292).wf = false ∧ (Instr.powerOn 9291).wf = true := by decide
theorem test_wf_configRecord : (Instr.configRecordApply (some 514)).wf = false ∧ (Instr.configRecordApply (some 513)).wf = true := by
  decide
theorem test_wf_saveEnd : (Instr.saveEnd (some 9291)).wf = false ∧ (Instr.saveEnd (some 9290)).wf = true := by decide
theorem test_wf_reporter : (Instr.reporterAgeing 3 0).wf = false ∧ (Instr.reporterAgeing 3 63).wf = false
    ∧ (Instr.reporterAgeing 3 62).wf = true := by decide
theorem test_wf_circuit : (Instr.circuitDeadlineExpiry 0).wf = false ∧ (Instr.circuitDeadlineExpiry 1024).wf = false := by decide
theorem test_wf_lease : (Instr.leaseExpiry 0 0).wf = false ∧ (Instr.leaseExpiry 0 4096).wf = false := by decide
theorem test_wf_wait : (Instr.waitExpiry 0 0).wf = false ∧ (Instr.waitExpiry 0 4096).wf = false := by decide
theorem test_wf_truck : (Instr.truckEntryExpiry 0).wf = false ∧ (Instr.truckEntryExpiry 4096).wf = false := by decide
theorem test_wf_upsets : (Instr.read twice).wf = false ∧ (Instr.classifyFrame (.spur 0) twice).wf = false
    ∧ (Instr.trunkTransmitDone .east twice).wf = false ∧ (Instr.spurTransmitDone 0 twice).wf = false
    ∧ (Instr.read [⟨3, 5, false⟩]).wf = true := by decide

/-- The rows whose operands are the memory errors of the read alone. -/
theorem test_wf_reading : localRows.all (fun row => !(row twice).wf && (row []).wf) = true := by decide

/-! ## Small states -/

/-- A trunk port UP with a neighbour of number `n`. -/
def upPort (n : Nat) : TrunkPort :=
  { TrunkPort.powerOn with
    signal := true, lock := true, state := .up, helloDue := some 500, silenceDue := some 2000
    nb := { valid := true, ring := 0x0A31, node := n, wrap := false, island := false, lastHello := 0 } }

/-- Node 7 of ring 0x0A31, its load over, with control station 1.10. -/
def node7 : State :=
  { State.reset with
    cfl := { Loader.powerOn with load := .complete }
    mge := { Manager.powerOn with table := { NodeTable.powerOn with ring := 0x0A31, node := 7, station1 := ⟨1, 10⟩ } } }

/-- The same with both trunk ports UP. -/
def ringed : State := { node7 with tpe := upPort 8, tpw := upPort 6, alc := { AlarmControl.powerOn with island := false } }

/-- The same with SP2 ACTIVE at stations 80 to 95, drop 5 of kind `kind` in zone 9. -/
def lined (kind : DropKind) : State :=
  { ringed with
    spurs := ringed.spurs.set 1 { SpurPort.powerOn with
      pres := true, state := .active, granted := 1
      descriptor := some ⟨1, 32, Vector.replicate 16 kind⟩
      drops := (Vector.replicate 16 Drop.powerOn).set 5 { Drop.powerOn with present := true, kind, zone := 9, out := if kind = .foreign then .noOutput else .settled } }
    cls := { Classifier.powerOn with windows := Classifier.powerOn.windows.set 1 ⟨80, 95⟩ } }

/-- A frame of one block as it stands on a queue. -/
def held (arrival : PortId) (d : Frame) : Stored :=
  { body := .drift d, level := d.level, blocks := [0], origin := .spur, arrival := some arrival, ctx := none
    target := .allDrops, entry := some 0 }

/-- The state with one frame on queue `q`. -/
def State.holding (s : State) (q : Fin 9) (f : Stored) : State :=
  (s.setQueue q { s.queue q with frames := [f] }).setFbf { s.fbf with free := s.fbf.free.drop 1, held := 0 :: s.fbf.held }

/-- The state with a frame for an endpoint on LOCAL, received from the East. -/
def given (s : State) (d : Frame) : State := State.holding s localQueue (held (.trunk .east) d)

/-- A frame for an endpoint of node 7. -/
def frameFor (station : Nat) (cls : FrameClass) (subtype tag : Nat) (src : Addr) (payload : List Byte) : Frame :=
  { Frame.built cls subtype 9 ⟨7, station⟩ src payload with tag }

/-- A request of the control station. -/
def request (payload : List Byte) : Frame := frameFor 0 .mgmt 0 77 ⟨1, 10⟩ payload

/-- A COMMAND request. -/
def order (code : Nat) (args : List Nat) : Frame := request ([2, byte code] ++ fieldBytes args)

/-- The state that a command leaves. -/
def after (c : Instr) (s : State) : State :=
  match exec c s with
  | .next t => t
  | _ => s

/-- The state at another time. -/
def clocked (n : Nat) (s : State) : State := { s with time := BitVec.ofNat 32 n }

/-- The payloads of the frames on a queue. -/
def payloads (s : State) (q : Fin 9) : List (List Byte) := (s.queue q).frames.filterMap fun f => f.body.frame?.map (·.payload)

/-! ## The manual's worked sequences -/

/-- Section 11.4: "Run over the nine ASCII bytes "123456789", the algorithm gives 0x29B1". -/
theorem test_crc : crc16 [0x31, 0x32, 0x33, 0x34, 0x35, 0x36, 0x37, 0x38, 0x39] = 0x29B1 := by decide +kernel

/-- Section 11.1, the example: the bytes of a zone report. -/
theorem test_frame_bytes :
    ({ cls := .air, level := 11, hop := 127, wrapped := false, dst := ⟨63, 241⟩, src := ⟨7, 241⟩, zone := 12, subtype := 1, tag := 12
       payload := [0, 2] } : Frame).encode.take 12
      = [0x3B, 0xFE, 0x3F, 0xF1, 0x07, 0xF1, 0x61, 0x02, 0x00, 0x0C, 0x00, 0x02] := by decide +kernel

/-- Section 1.10, 100140: the HELLO on entering IDENT_WAIT carries wrap 1 and island 0, TPW being UP. -/
theorem test_hello_sent :
    let s := { ringed with tpe := { TrunkPort.powerOn with signal := true, state := .training, helloDue := some 360 } }
    let t := after (.trunkLockRise .east) (clocked 140 s)
    (t.trunk .east).state = .identWait ∧ (t.trunk .east).identDue = some 2140 ∧ (t.trunk .east).helloDue = some 640
      ∧ (t.trunk .east).tx.map TrunkTx.bytes = some ((t.hello).encode) ∧ t.hello.payload = [0x0A, 0x31, 7, 1] := by decide +kernel

/-- Section 1.10, step 2 of the broadcast: at a break it is turned back with hop 125 and WRAPPED. -/
theorem test_broadcast_turned :
    let d : Frame := { cls := .air, level := 11, hop := 126, wrapped := false, dst := ⟨63, 241⟩, src := ⟨2, 241⟩, zone := 12
                       subtype := 1, tag := 12, payload := [0, 2] }
    let t := after (.trunkFrameReceive .west d.encode) { ringed with tpe := TrunkPort.powerOn }
    (t.queue 1).frames.map (·.body) = [.drift { d with hop := 125, wrapped := true }] ∧ t.broadcasts.length = 1
      ∧ t.cls.waiting.length = 1 := by decide +kernel

/-- Section 1.10, a break under traffic: TPE lost, its three queued frames. (Ahead of them stands the TRUNK_LOSS announcement.) -/
theorem test_break :
    let b : Frame := { cls := .bulk, level := 3, hop := 118, wrapped := false, dst := ⟨6, 9⟩, src := ⟨3, 9⟩, zone := 0, subtype := 0
                       tag := 1, payload := [] }
    let f (d : Frame) (o : Origin) (k : Nat) : Stored := { held (.trunk .west) d with origin := o, blocks := [k] }
    let s := ringed.setQueue 0 { Queue.powerOn with
      frames := [f b (.transit .west) 0, f { b with hop := 127 } (.announce 1) 1, f { b with wrapped := true } (.transit .east) 2] }
    let t := after (.trunkSignalLoss .east) (s.setFbf { s.fbf with free := s.fbf.free.drop 3, held := [0, 1, 2] })
    (t.queue 0).frames = [] ∧ ((t.queue 1).frames.drop 1).map (·.body) = [.drift { b with wrapped := true }, .drift { b with hop := 127 }]
      ∧ t.mge.has .noRoute = true ∧ t.alc.alarms.map (fun e => (e.kind, e.source)) = [(.trunkLoss, 1)] ∧ t.alc.island = false := by
  decide +kernel

/-- Section 2.11, 140: class 2 beside 20 granted half-watts does not fit 24. -/
theorem test_power_denied :
    let s := { ringed with spurs := ((ringed.spurs.set 0 { SpurPort.powerOn with state := .active, granted := 3 }).set 1
      { SpurPort.powerOn with state := .active, granted := 3 }).set 2 { SpurPort.powerOn with state := .interrogating, tries := 1 } }
    let t := after (.descriptorReceive 2 ((0x80 : Byte) :: (Frame.line 0 ([2] ++ bytes16 0 ++ bytes32 0)).encode)) s
    (t.spur 2).state = .powerDenied ∧ t.mge.has .powerDenied = true ∧ t.grantedWatts = 20 := by decide +kernel

/-- Section 2.11, 4200: a late confirmation settles the drop and clears its fault flag. -/
theorem test_late_confirm :
    let s := lined .native
    let r := { (s.spur 1).drops[(5 : Fin 16)] with desired := 3, out := .unconfirmed, sent := 3, retry := 2, faultReported := true }
    let t := after (.outputConfirmReceive 1 ((5 : Byte) :: (Frame.line 4 [3]).encode)) (s.setSpur 1 ((s.spur 1).setDrop 5 r))
    (t.spur 1).drops[(5 : Fin 16)] = { r with confirmed := 3, out := .settled, retry := 0, faultReported := false } := by decide +kernel

/-- SP4 as in section 2.11's poll: ATTENTION drops 2, 7 and 9. -/
def polled (p : Poll) : State :=
  ringed.setSpur 3 { SpurPort.powerOn with
    state := .active, poll := p
    drops := vmapIdx (fun i r => if i.val ∈ [2, 7, 9] then { r with present := true, kind := .attention } else r) SpurPort.powerOn.drops }

/-- Section 2.11's poll, steps 2, 3 and 7. -/
theorem test_poll_summaries :
    let summary (a b : Nat) (p : Poll) :=
      ((after (.attnSummaryReceive 3 ((0x80 : Byte) :: (Frame.line 2 (bytes16 a ++ bytes16 b)).encode)) (polled p)).spur 3).poll
    let q := { Poll.powerOn with state := .query }
    summary 0x1FFF 0x0280 q = { q with again := true, waiting := true }
      ∧ summary 0xFD7F 0x0280 q = { q with state := .request, current := 7, waiting := true }
      ∧ summary 0xFDFF 0x0200 { q with silent := 0x200 } = { q with silent := 0x200, grade := .routine, waiting := true } := by
  decide +kernel

/-- Section 2.11's poll, step 6. -/
theorem test_poll_silent :
    let t := after (.reportTimerExpiry 3) (polled { Poll.powerOn with state := .request, current := 9, due := some 0 })
    (t.spur 3).poll.silent = 0x200 ∧ (t.spur 3).poll.state = .query ∧ t.mge.has .pollError = true := by decide +kernel

/-- Section 3.3, the example: stamping of a sample from drop 4 of SP3. -/
theorem test_native_sample :
    let s := ringed.setCls { Classifier.powerOn with
      windows := Classifier.powerOn.windows.set 2 ⟨40, 55⟩
      setA := { RuleSet.powerOn with floors := RuleSet.powerOn.floors.set 3 9 } }
    let d : Frame := { Frame.built .air 0 3 ⟨0, 241⟩ ⟨0, 0⟩ [0, 1] with tag := 17 }
    let s := s.setFbf { s.fbf with free := s.fbf.free.drop 1, held := [0] }
    let t := after (.classifyFrame (.spur 2) []) (s.setCls { s.cls with
      waiting := [⟨.spur 2, 4, .native, 12, { held (.spur 2) d with entry := none }⟩] })
    (t.queue localQueue).frames.map (fun f => (f.body, f.level))
      = [(.drift { d with dst := ⟨7, 241⟩, src := ⟨7, 44⟩, zone := 12, level := 9 }, 9)] := by decide +kernel

/-- Section 3.8: the filters of the cascade example, and its foreign frame. -/
def cascade : RuleSet :=
  let f := Filter.powerOn
  { RuleSet.powerOn with
    filters := (((RuleSet.powerOn.filters.set 0 { f with enabled := true, spurs := 2, offset := 15, mask := 0x00100000, level := 2 }).set 1
      { f with enabled := true, spurs := 6, offset := 7, mask := 0xF8000000, cascade := true }).set 2
      { f with mask := 0xF, crc := 0x29B1, last := 0x39, cls := .haul, subtype := 1, level := 9, dst := ⟨0, 242⟩, tag := ⟨36, 2⟩
               value1 := ⟨38, 1⟩, value2 := ⟨39, 1⟩, page := some 3, reply := .haulAnswer }).set 3
      { f with enabled := true, spurs := 63, offset := 1, mask := 0x1FF, crc := 0x29B1, last := 0x39, level := 2, dst := ⟨12, 17⟩
               page := some 5, reply := .echo } }

def radioFrame : List Byte :=
  let digits : List Byte := [0x31, 0x32, 0x33, 0x34, 0x35, 0x36, 0x37, 0x38, 0x39]
  List.replicate 4 0 ++ digits ++ List.replicate 42 0 ++ digits ++ [1, 0x2C, 5, 0, 0, 0]

theorem test_cascade :
    (cascade.classify 1 radioFrame).map (fun m => (m.filter.cls, m.tag, m.value1, m.value2, m.filter.page))
        = some (.haul, 300, 5, 0, some 3)
      ∧ (cascade.classify 1 (radioFrame.take 63)).map (fun m => (m.filter.cls, m.tag, m.filter.page)) = some (.bulk, 0, some 5) := by
  decide +kernel

/-- Section 3.8: the three checksums. -/
theorem test_checksums :
    let page (partialSum sumOffset used : Nat) (slot : PatchSlot) (bs : List Byte) : Page :=
      { Page.powerOn with
        used, hasSum := true, sumOffset, partialSum, slots := Page.powerOn.slots.set 0 slot
        bytes := vmapIdx (fun i _ => bs.getD i.val 0) Page.powerOn.bytes }
    let three := page 0xB3C2 10 12 ⟨4, 0, 2⟩ [0xA5, 0x5A, 0x00, 0x10, 0, 0, 0x0D, 0x58, 0x01, 0, 0, 0]
    let three := { three with slots := three.slots.set 1 ⟨9, 3, 1⟩ }
    three.build (fun k => if k = 0 then 2583 else 120) = [0xA5, 0x5A, 0x00, 0x10, 0x0A, 0x17, 0x0D, 0x58, 0x01, 0x78, 0x41, 0xAE]
      ∧ ((page 0xF5A0 6 8 ⟨4, 7, 2⟩ []).build fun _ => 0x1234).drop 6 = [0xF8, 0x2A]
      ∧ ((page 0xFF00 6 8 ⟨5, 7, 1⟩ []).build fun _ => 0xFF).drop 6 = [0xFF, 0xFF] := by decide +kernel

/-- A frame of section 4.7's full queue: its tag, level and blocks. -/
def queued (tag level n : Nat) : Stored :=
  { held (.trunk .east) { Frame.built .bulk 0 level ⟨7, 5⟩ ⟨1, 1⟩ [] with tag } with blocks := List.range n }

/-- The full queue, and the tags in a queue's order. -/
def fullQueue : State :=
  (ringed.setMge { ringed.mge with table := { ringed.mge.table with queueLimits := Vector.replicate 9 8 } }).setQueue 4
    { Queue.powerOn with frames := [queued 1 12 2, queued 2 6 1, queued 3 6 2, queued 6 6 1, queued 4 3 1, queued 5 3 1] }

def tagsOn (q : Fin 9) (s : State) : List Nat := (s.queue q).frames.map fun x => (x.body.frame?.map (·.tag)).getD 0

/-- Section 4.7, a full queue: the arrivals G, H and J, each against the queue as the one before left it. -/
theorem test_full_queue_pushes_out : tagsOn 4 (fullQueue.place 4 (queued 7 6 2)).2 = [1, 2, 3, 6, 7] := by decide +kernel
theorem test_full_queue_refuses : (fullQueue.place 4 (queued 8 3 1)).1 = false := by decide +kernel
theorem test_full_queue_lowest :
    tagsOn 4 ((fullQueue.setQueue 4 { Queue.powerOn with
      frames := [queued 1 12 2, queued 2 6 1, queued 3 6 2, queued 6 6 1, queued 7 6 2] }).place 4 (queued 9 13 2)).2
      = [9, 1, 2, 3, 6] := by decide +kernel

/-- Section 4.7, drawing on the reserve. -/
theorem test_reserve :
    let b (n : Nat) : Buffer := { Buffer.powerOn with free := List.range n }
    (b 20).admits .bulk 2 = true ∧ (b 18).admits .call 2 = true ∧ (b 16).admits .air 1 = false ∧ (b 16).admits .alarm 1 = true
      ∧ (b 15).admits .bulk 2 = false ∧ (b 15).admits .mgmt 1 = true := by decide

/-- Section 5.9: channel 17, methane. -/
def methane : Channel :=
  { Channel.powerOn with cfg := { ChannelCfg.powerOn with
      enabled := true, source := ⟨7, 44⟩, zone := 12, zeroOffset := 820, gain := 5000, fullScale := 5000, shift := 2, warn := 1000
      trip := 1250, hysteresis := 50 } }

/-- The channel after a sample. -/
def sampled (x : Channel) (word : Nat) : Channel :=
  (after (.sampleReceive []) (given (ringed.setChannel 17 x) (frameFor 241 .air 0 17 ⟨7, 44⟩ (bytes16 word)))).channel 17

/-- Section 5.9: samples 1, 6 and 7 of the first sequence. -/
theorem test_samples :
    (let y := sampled methane 1600
     (y.calibrated, y.smoothed, y.state) = (952, 952, .normal))
      ∧ (let y := sampled { methane with state := .warn, computed := .warn, smoothed := 1198 } 2000
         (y.calibrated, y.smoothed, y.state, y.causes.level) = (1440, 1258, .trip, true))
      ∧ (let y := sampled { methane with state := .trip, computed := .trip, smoothed := 1258, causes := ⟨true, false, false, false⟩ } 1000
         (y.calibrated, y.smoothed, y.state, y.causes.level) = (220, 999, .warn, false)) := by decide +kernel

/-- Section 5.9: an over-range word; and an indefinite one, which changes nothing but the raw word and the flags. -/
theorem test_qualifiers :
    let x := { methane with state := .normal, computed := .normal, smoothed := 805, calibrated := 5 }
    (let y := sampled x 0x4000
     (y.calibrated, y.smoothed, y.state, y.causes) = (5000, 1853, .trip, ⟨true, false, true, false⟩))
      ∧ sampled x 0xC000 = { x with lastRaw := 0xC000, flags := ⟨false, false, true⟩ } := by decide +kernel

/-- Section 5.9: stale at 130 s, with the zone in TRIP by the fail action. -/
theorem test_stale :
    let x := { methane with state := .normal, computed := .normal, smoothed := 805, lastValid := 100000 }
    let t := after (.staleExpiry 17) (clocked 130000 (ringed.setChannel 17 x))
    (t.channel 17).state = .fault ∧ (t.zone 11).localState = .trip ∧ t.alc.holdsActive .channelFault 17 = true
      ∧ (after (.staleExpiry 17) (clocked 129999 (ringed.setChannel 17 x))).channel 17 = x := by decide +kernel

/-- Section 6.10, a full reporter list, 514: the earliest CLEAR entry makes room. -/
theorem test_reporters :
    let r (n t : Nat) (st : RepState) : Reporter := ⟨n, st, BitVec.ofNat 32 (t * 1000)⟩
    let s := clocked 514000 (ringed.setZone 3 { Zone.powerOn with enabled := true, evaluated := true, reporters :=
      [r 18 510 .clear, r 19 506 .clear, r 21 509 .alert, r 22 460 .stale, r 23 506 .clear, r 24 511 .clear, r 25 508 .clear
       , r 26 512 .clear] })
    let t := after (.zoneReportReceive []) (given s (frameFor 241 .air 1 4 ⟨27, 241⟩ (bytes16 2)))
    (t.zone 3).reporters.map (·.node) = [18, 21, 22, 23, 24, 25, 26, 27] ∧ (t.zone 3).combined = .trip := by decide +kernel

/-- Section 6.10, a contactor that does not pull in, 9200 and 15400. -/
theorem test_contactor :
    let s := ringed.setRelay 0 { Relay.powerOn with func := .zonePermit, mask := 0x3000, energised := true, mismatchDue := some 0 }
    let t := after (.mismatchTimerExpiry 0) s
    (t.relay 0).fault = true ∧ t.alc.holdsActive .relayFault 1 = true
      ∧ ((after (.relayFeedbackChange 0 true) t).relay 0).fault = false := by decide +kernel

/-- Section 7.9, a preemption at a full trunk port: victims 52 and 20 make room for circuit 71. -/
theorem test_preemption :
    let c (id : Nat) (a b : PortId) (w : Nat) (p : Precedence) (z k : Nat) : Circuit :=
      ⟨id, ⟨1, 1⟩, ⟨9, 9⟩, a, b, w, p, z, .connected, 430000, 0, BitVec.ofNat 32 (k * 1000)⟩
    let s := clocked 400000 (lined .native)
    let s := s.setMge { s.mge with table := { s.mge.table with node := 5, voice := s.mge.table.voice.set 0 6 } }
    let s := s.setZone 8 { Zone.powerOn with evaluated := true, localState := .trip, combined := .trip, force := true }
    let s := s.setCsw { nextId := 6, circuits :=
      [c 20 (.trunk .west) (.trunk .east) 2 .normal 3 100, c 101 (.trunk .east) (.spur 0) 1 .zone 11 50
       , c 70 (.spur 3) (.trunk .east) 2 .priority 9 200, c 52 (.trunk .west) (.trunk .east) 1 .normal 4 300] }
    let d : Frame := { Frame.built .call 0 9 ⟨5, 243⟩ ⟨5, 83⟩ (fieldBytes [0, Addr.code ⟨9, 40⟩] ++ [2, 0]) with zone := 9 }
    let t := after (.callSetupReceive []) (State.holding s localQueue (held (.spur 1) d))
    t.csw.circuits.map (fun x => (x.id, x.prec)) = [(101, .zone), (70, .priority), (71, .zone)]
      ∧ t.reserved (.trunk .east) = 5 ∧ t.reserved (.trunk .west) = 0 := by decide +kernel

/-- Segment 21 of section 8.9 with its trucks. -/
def decline (g : Segment) (trucks : List Truck) : State :=
  ringed.setHlc {
    roster := ((HaulControl.powerOn.roster.set 0 ⟨300, true, true⟩).set 1 ⟨301, true, false⟩).set 2 ⟨302, true, false⟩
    segments := HaulControl.powerOn.segments.set 4 { g with
      id := 21, zone := 14, capacity := 2, lease := 120, waitLimit := 300, autoReopen := true }
    trucks }

def truck (id : Nat) (held : List Nat) (waiting : Option Nat) : Truck := ⟨id, 0, ⟨6, 66⟩, none, id, held, waiting⟩

/-- Section 8.9, 40: the occupant clears, the head is granted, the next stays for its direction. -/
theorem test_haul_clear :
    let s := decline { Segment.powerOn with
        state := .opened, occupants := [⟨300, .inbye, 0, 120000, false⟩]
        waiting := [⟨301, .outbye, 5000⟩, ⟨302, .inbye, 8000⟩] }
      [truck 300 [21] none, truck 301 [] (some 21), truck 302 [] (some 21)]
    let t := after (.haulClearReceive []) (given (clocked 40000 s) (frameFor 242 .haul 2 300 ⟨6, 66⟩ (bytes16 21)))
    (t.segment 4).occupants = [⟨301, .outbye, 40000, 160000, false⟩] ∧ (t.segment 4).waiting.map (·.truck) = [302]
      ∧ payloads t 0 = [fieldBytes [0, 0, 21, 120, 0]] := by decide +kernel

/-- Section 8.9, 5: a request against an occupant of the other direction waits. -/
theorem test_haul_wait :
    let s := decline { Segment.powerOn with state := .opened, occupants := [⟨300, .inbye, 0, 120000, false⟩] } [truck 300 [21] none]
    let t := after (.entryRequestReceive []) (given (clocked 5000 s) (frameFor 242 .haul 1 301 ⟨6, 66⟩ (fieldBytes [21, 1])))
    (t.segment 4).waiting = [⟨301, .outbye, 5000⟩] ∧ payloads t 0 = [fieldBytes [1, 0, 21, 0, 1]] := by decide +kernel

/-- Section 9.10: the pacer announces the first DUE entry in list order and waits 50 ms. -/
theorem test_pacer :
    let e (serial severity : Nat) (kind : AlarmKind) : Alarm :=
      ⟨serial, kind, 12, 12, none, 0, severity, true, false, 20, true, true, serial⟩
    let s := ringed.setAlc { ringed.alc with alarms := [e 3 14 .gasTrip, e 2 11 .channelFault], gapDue := some 50 }
    let t := after .gapTimerExpiry (clocked 50 s)
    t.alc.gapDue = some 100 ∧ t.alc.alarms.map (·.due) = [false, true]
      ∧ payloads t 0 = [[0, 3, 1, 14, 0, 12, 0, 12, 0, 0, 0, 20, 7]] := by decide +kernel

/-- Section 9.10, a full list: the acknowledged entry of lower severity makes room. -/
theorem test_full_list :
    let e (serial severity : Nat) (kind : AlarmKind) (acked : Bool) : Alarm :=
      ⟨serial, kind, serial, 0, none, 0, severity, true, acked, 0, true, false, serial⟩
    let s := ringed.setAlc { ringed.alc with
      alarms := (List.range 29).map (fun i => e (i + 1) 11 .gasWarn false)
        ++ [e 95 10 .haulOverdue true, e 91 6 .posted true, e 88 3 .posted false]
      born := 100 }
    let t := s.raiseAlarm .spurFault 2 0 none
    t.alc.alarms.length = 32 ∧ t.alc.alarms.any (·.serial == 91) = false ∧ t.alc.alarms.any (·.serial == 95) = true := by
  decide +kernel

/-- Section 10.8, the example: an unconfigured node takes a WRITE of NODE, and then refuses other sources. -/
theorem test_unconfigured :
    let s := { ringed with mge := Manager.powerOn }
    let fields := [0x0A31, 7, 266, 267, 24, 1000, 400, 1025] ++ List.replicate 9 48 ++ [24, 24, 8, 8, 8, 8, 8, 8]
    let write : Frame := { request ([1, 1, 0] ++ fieldBytes fields) with dst := ⟨63, 0⟩ }
    let t := after (.writeNode []) (given s write)
    t.mge.table.node = 7 ∧ t.mge.table.ring = 0x0A31 ∧ payloads t 0 = [[0, 0]]
      ∧ payloads (after (.writeNode []) (given t { write with src := ⟨4, 20⟩ })) 0 = [[1, 0], [0, 0]].reverse := by decide +kernel

/-- Section 10.7: a blank memory, its byte 0 holding 0xFF, completes the load with no record. -/
theorem test_blank_load :
    let t := after (.configRecordApply none) State.reset
    t.cfl.load = .complete ∧ t.cfl.applied = 0 ∧ t.config = State.reset.config := by decide +kernel

/-- R4: the HELLO that goes out is the one that waited; a second does not follow it. -/
theorem test_hello_waits_once :
    let t := after (.helloTimerExpiry .east) (clocked 500 (ringed.setTrunk .east { upPort 8 with helloWaiting := true }))
    (t.trunk .east).helloWaiting = false ∧ (t.trunk .east).tx.isSome = true := by decide +kernel

/-- R22's table: the probe output is high in INTERROGATING and POWER_DENIED, line power in POWERED and ACTIVE. -/
theorem test_port_outputs :
    [AttachState.empty, .detected, .interrogating, .powerDenied, .powered, .active, .faulted].map (fun st =>
        ({ SpurPort.powerOn with state := st }.prb, { SpurPort.powerOn with state := st }.pwr))
      = [(false, false), (false, false), (true, false), (true, false), (false, true), (false, true), (false, false)] := by decide

/-- R38: a hold-off of 1000 ms is over at its last millisecond, whatever the time that passes before ATTN is high again. -/
theorem test_hold_off_ends :
    let s := clocked 999 (polled { Poll.powerOn with holdOff := some 1000 })
    (s.spur 3).poll.holdOff = some 1000 ∧ ((after (.pollStart 3 true) s).spur 3).poll.state = .idle
      ∧ (s.tick.spur 3).poll.holdOff = none ∧ ((after (.pollStart 3 true) s.tick).spur 3).poll.state = .query := by decide +kernel

/-- R82: a CALL of level 13 leaves LOCAL before a MGMT request of level 3 that came first. -/
theorem test_local_takes_highest_level :
    let q : List Frame := [{ frameFor 243 .call 4 1 ⟨7, 85⟩ [] with level := 13 }, { request [] with level := 3 }]
    let s := ringed.setQueue localQueue { Queue.powerOn with frames := q.map (held (.trunk .east)) }
    s.localDue = [.callVoiceReceive [], .badOperationRequest []]
      ∧ ((after (.badOperationRequest []) s).queue localQueue).frames.length = 2
      ∧ ((after (.callVoiceReceive []) s).queue localQueue).frames.map (·.level) = [3] := by decide +kernel

/-- R182: no acknowledge at the first read is ABSENT, without an event; at a later one it is STOPPED with LOAD_ERROR. -/
theorem test_memory_absent :
    let later := State.reset.setCfl { State.reset.cfl with memory := some [3, 0, 1, 0, 1, 255], position := 5 }
    (after (.configRecordApply (some 0)) State.reset).cfl.load = .absent
      ∧ (after (.configRecordApply (some 0)) State.reset).mge.has .loadError = false
      ∧ (after (.configRecordApply (some 0)) later).cfl.stopCause = .noAnswer
      ∧ (after (.configRecordApply (some 0)) later).mge.has .loadError = true := by decide +kernel

/-! ## The statements' hypotheses can be met -/

/-- The command answers a next state. -/
def runs (c : Instr) (s : State) : Bool :=
  match exec c s with
  | .next _ => true
  | _ => false

/-- The state with banks 1 to 3 RETIRED, and the blocks of bank 0 but the first `n` free (a small buffer keeps the tests short). -/
def oneBank (n : Nat) (s : State) : State :=
  let retired : Bank := { Buffer.powerOn.banks[(0 : Fin 4)] with state := .retired, cause := .command }
  s.setFbf { s.fbf with banks := (Vector.replicate 4 retired).set 0 Buffer.powerOn.banks[(0 : Fin 4)], free := List.range' n (64 - n) }

/-- A state in which something of every kind stands: a frame on LOCAL, an active line, a circuit, an occupied segment, an alarm, an
energised permit relay. -/
def busy : State :=
  let s := oneBank 1 (given (lined .native) (order 18 [1]))
  { s with
    csw := { circuits := [⟨1, ⟨7, 85⟩, ⟨1, 9⟩, .spur 1, .trunk .east, 2, .normal, 9, .pending, 10000, 0, 0⟩], nextId := 2 }
    hlc := (decline { Segment.powerOn with state := .opened, occupants := [⟨300, .inbye, 0, 120000, false⟩] } [truck 300 [21] none]).hlc
    zones := vmap (fun z : Zone => { z with evaluated := true }) s.zones
    relays := s.relays.set 0 { Relay.powerOn with func := .zonePermit, mask := 0x3000, energised := true, closed := true }
    alc := { s.alc with
      serial := 1, born := 1, alarms := [⟨1, .spurFault, 3, 0, none, 14, 8, true, false, 0, true, false, 0⟩]
      actions := Vector.replicate 16 ⟨.announceTrip, 8, 0, .sourceDrop⟩, severityFlags := vgen fun n => decide (n.val < 8) } }

theorem witness_ConfigurationChangesOnlyByWrites :
    Instr.gapTimerExpiry.writesConfig = false ∧ runs .gapTimerExpiry busy = true := by decide +kernel

/-- The invariants that a step is to keep hold together in a state where they say something, and the step answers a next state. -/
theorem witness_invariants :
    busy.poolSound = true ∧ busy.banksSound = true ∧ busy.queuesOrdered = true ∧ busy.powerSound = true ∧ busy.permitsSound = true
      ∧ busy.roadsSound = true ∧ busy.voiceSound = true ∧ busy.trunksSound = true ∧ busy.alarmsSound = true
      ∧ busy.windowsSound = true ∧ busy.alc.alarms.length ≤ 32 ∧ busy.sizesSound = true ∧ busy.copiesSound = true
      ∧ busy.gasSound = true ∧ busy.outputsSound = true ∧ busy.pacerSound = true
      ∧ (match step busy with | .next _ => true | _ => false) = true := by decide +kernel

/-- A node in which a SAVE runs. -/
def savingNode : State := { ringed with cfl := { Loader.powerOn with memory := some [9, 8, 7, 6, 5], saving := some [1, 2, 3, 255] } }

/-- R183: power goes when two bytes of a SAVE have been written, when all have, and while none runs. -/
theorem test_save_cut_off :
    cutOffSave savingNode.cfl 2 = some [1, 2, 7, 6, 5] ∧ cutOffSave savingNode.cfl 4 = some [1, 2, 3, 255, 5]
      ∧ cutOffSave { savingNode.cfl with saving := none } 2 = savingNode.cfl.memory
      ∧ (after (.powerOn 2) savingNode).cfl.memory = some [1, 2, 7, 6, 5] := by decide +kernel

/-- A port whose inputs are high comes to IDENT_WAIT at power-on, with its HELLO. -/
theorem test_power_on_hello :
    let t := after (.powerOn 0) ringed
    (t.trunk .east).tx.map TrunkTx.bytes = some (helloOf t).encode := by decide +kernel

/-! ### Chapter 1 -/

theorem witness_TrunkInputsRiseAndHelloGoes :
    (node7.trunk .east).state = .down ∧ (ringed.trunk .east).state ≠ .down ∧ (ringed.trunk .east).state ≠ .training
      ∧ ((node7.setTrunk .west { TrunkPort.powerOn with state := .training }).trunk .west).state = .training
      ∧ (clocked 500 ringed).expired (ringed.trunk .east).helloDue = true := by decide

/-- Node 7 with its East port in IDENT_WAIT, the ident timer due at 2000. -/
def waitingIdent : State :=
  { ringed with tpe := { TrunkPort.powerOn with signal := true, lock := true, state := .identWait, identDue := some 2000 } }

theorem witness_TrunkLossesAndTimers :
    (ringed.trunk .east).signal = true ∧ (waitingIdent.trunk .east).state = .identWait ∧ (ringed.trunk .east).state = .up
      ∧ (node7.trunk .east).state ≠ .identWait ∧ (node7.trunk .east).state ≠ .up
      ∧ (clocked 2000 waitingIdent).expired (waitingIdent.trunk .east).identDue = true
      ∧ (clocked 2000 ringed).expired (ringed.trunk .east).silenceDue = true := by decide

/-- A HELLO of node `n`. -/
def helloFrom (ring n : Nat) : Frame := Frame.built .ident 0 15 ⟨63, 0⟩ ⟨n, 0⟩ (bytes16 ring ++ [byte n, 0])

theorem witness_LeavingAndEnteringUp :
    ringed.alarmsSound = true ∧ (ringed.trunk .east).state = .up
      ∧ ((after (.trunkSignalLoss .east) ringed).trunk .east).state ≠ .up ∧ runs (.trunkSignalLoss .east) ringed = true
      ∧ waitingIdent.alarmsSound = true ∧ (waitingIdent.trunk .east).state ≠ .up
      ∧ ((after (.helloReceive .east (helloFrom 0x0A31 8).encode) waitingIdent).trunk .east).state = .up
      ∧ runs (.helloReceive .east (helloFrom 0x0A31 8).encode) waitingIdent = true := by decide +kernel

/-- R6: after an ident expiry of the same moment an acceptable HELLO is lost; one of the next millisecond takes the port UP. -/
theorem test_hello_with_ident_expiry_is_lost :
    let t := after (.identTimerExpiry .east) (clocked 2000 waitingIdent)
    let hello := Instr.helloReceive .east (helloFrom 0x0A31 8).encode
    (t.trunk .east).state = .identWait ∧ ((after hello t).trunk .east) = t.trunk .east
      ∧ ((after hello (clocked 2001 t)).trunk .east).state = .up
      ∧ ((after hello (clocked 2000 waitingIdent)).trunk .east).state = .up := by decide +kernel

/-- R8: after a silence expiry of the same moment a frame is lost. -/
theorem test_frame_with_silence_expiry_is_lost :
    let t := after (.silenceTimerExpiry .east) (clocked 2000 ringed)
    (t.trunk .east).state = .identWait ∧ (t.trunk .east).cause = .silent
      ∧ (after (.helloReceive .east (helloFrom 0x0A31 8).encode) t).trunk .east = t.trunk .east := by decide +kernel

theorem witness_HelloReceiveMovesLink :
    (ringed.trunk .east).state.receives = true ∧ (waitingIdent.trunk .east).state.receives = true
      ∧ (waitingIdent.trunk .east).cause = .noCause ∧ (ringed.trunk .east).state ≠ .identWait
      ∧ [helloFrom 0x0A31 8, helloFrom 0x0A31 7, helloFrom 0x0A32 62, helloFrom 0x0A31 0].all (fun d =>
          trunkCheck d.encode == some d && d.isHello) = true := by decide +kernel

/-- Bytes with a good CRC that fail one other check of R12 each. -/
def malformed : List (List Byte) :=
  let d : Frame := Frame.built .bulk 0 9 ⟨7, 5⟩ ⟨1, 1⟩ [1, 2]
  let hello := helloFrom 0x0A31 8
  let crc (bs : List Byte) : List Byte := bs ++ bytes16 (crc16 bs).toNat
  [{ d with dst := ⟨0, 5⟩ }.encode, { d with dst := ⟨64, 5⟩ }.encode, { d with cls := .line }.encode, { hello with subtype := 1 }.encode
    , { hello with payload := [0x0A, 0x31, 8] }.encode, { hello with payload := [0x0A, 0x31, 63, 0] }.encode
    , crc (0x80 :: (d.header ++ d.payload).drop 1), crc (d.header ++ [1]), crc (d.header ++ [1, 2, 3])
    , crc ((d.header.set 7 241) ++ [1, 2])]

theorem witness_TrunkArrivalChecks :
    (node7.trunk .east).state.receives = false ∧ (ringed.trunk .east).state.receives = true
      ∧ (let t := (after (.identTimerExpiry .east) (clocked 2000 waitingIdent)).trunk .east
         t.state = .identWait ∧ t.entered = 2000 ∧ t.cause = .identTimeout)
      ∧ (waitingIdent.trunk .east).cause = .noCause ∧ (clocked 2000 waitingIdent).expired (waitingIdent.trunk .east).identDue = true
      ∧ (clocked 2000 ringed).expired (ringed.trunk .east).silenceDue = true
      ∧ malformed.all (fun bs => crcGood bs && malformedOnTrunk bs) = true ∧ malformedOnTrunk [] = true
      ∧ (let d := Frame.built .bulk 0 9 ⟨7, 5⟩ ⟨1, 1⟩ [1, 2]
         trunkCheck d.encode = some d ∧ d.isHello = false ∧ (waitingIdent.trunk .east).state = .identWait
          ∧ { ringed.fbf with free := List.range 16 }.admits d.cls (blocksFor d.encode.length) = false) := by decide +kernel

/-- Frames that pass every check of R12, a HELLO among them. -/
theorem witness_TrunkArrivalChecks_read :
    [helloFrom 0x0A31 8, Frame.built .bulk 0 9 ⟨7, 5⟩ ⟨1, 1⟩ [1, 2], Frame.built .mgmt 7 15 ⟨63, 255⟩ ⟨0, 0⟩ (List.replicate 60 0)].all
      (fun d => !malformedOnTrunk d.encode) = true := by decide +kernel

/-- A unicast from node 3. -/
def passing (dst : Addr) (hop : Nat) (wrapped : Bool) : Frame :=
  { Frame.built .bulk 0 9 dst ⟨3, 9⟩ [1, 2] with hop, wrapped }

theorem witness_UnicastIsForwardedOrDelivered :
    (ringed.trunk .east).state = .up ∧ ringed.mge.owed = [] ∧ ringed.fbf.admits .bulk (blocksFor 14) = true
      ∧ [passing ⟨1, 9⟩ 2 false, passing ⟨62, 9⟩ 1 false, passing ⟨62, 9⟩ 2 true, passing ⟨7, 9⟩ 0 true].all (fun d =>
          trunkCheck d.encode == some d && !d.isHello) = true
      ∧ ringed.room (trunkQueue .west) (blocksFor 14) = true := by decide +kernel

/-- A passing frame of level 9 against a full West queue of limit 8: its last frame gives way, or all hold their places. -/
theorem witness_UnicastIsForwardedOrDelivered_full :
    let s (fs : List Stored) : State :=
      (ringed.setMge { ringed.mge with table := { ringed.mge.table with queueLimits := Vector.replicate 9 8 } }).setQueue (trunkQueue .west)
        { Queue.powerOn with frames := fs }
    let kept := [queued 1 12 2, queued 2 9 5]
    let full := s (kept ++ [queued 3 8 1])
    (full.queue (trunkQueue .west)).frames = kept ++ queued 3 8 1 :: [] ∧ (∀ z ∈ queued 3 8 1 :: [], z.level < (passing ⟨1, 9⟩ 2 false).level)
      ∧ occupancy kept + blocksFor 14 ≤ full.mge.table.queueLimits[trunkQueue .west]
      ∧ full.mge.table.queueLimits[trunkQueue .west] < occupancy (kept ++ [queued 3 8 1]) + blocksFor 14 ∧ full.mge.table.enables = 0
      ∧ 8 < occupancy (([queued 1 12 2, queued 2 9 6] : List Stored).filter ((passing ⟨1, 9⟩ 2 false).level ≤ ·.level)) + blocksFor 14 := by
  decide +kernel

theorem witness_BroadcastsAreDeliveredAndForwarded :
    let s := oneBank 0 ringed
    (s.trunk .east).state = .up ∧ s.node ≠ 63 ∧ s.mge.owed = [] ∧ s.poolSound = true
      ∧ s.banksSound = true ∧ s.fbf.admits .bulk (blocksFor 14) = true ∧ s.room (trunkQueue .west) (blocksFor 14) = true
      ∧ s.fbf.admits .bulk (blocksFor 14 + blocksFor 14) = true
      ∧ [passing ⟨63, 9⟩ 2 false, passing ⟨63, 9⟩ 1 true, { passing ⟨63, 9⟩ 2 false with src := ⟨7, 9⟩ }].all (fun d =>
          trunkCheck d.encode == some d && !d.isHello) = true := by
  decide +kernel

/-- The one bank that is left with 17 blocks free: room for a frame of one block outside the reserve, and for no copy of it. -/
def nearlyFull : State :=
  let s := (oneBank 47 ringed).setQueue 0 { Queue.powerOn with frames := [{ queued 1 6 0 with blocks := List.range 47 }] }
  s.setFbf { s.fbf with held := List.range 47 }

theorem witness_BroadcastsAreDeliveredAndForwarded_copies :
    nearlyFull.poolSound = true ∧ nearlyFull.banksSound = true ∧ nearlyFull.fbf.admits .bulk (blocksFor 14) = true
      ∧ nearlyFull.fbf.admits .bulk (blocksFor 14 + blocksFor 14) = false ∧ nearlyFull.room (trunkQueue .west) (blocksFor 14) = true
      ∧ nearlyFull.broadcasts.any (sameBroadcast (passing ⟨63, 9⟩ 2 false)) = false := by decide +kernel

theorem witness_TrunkTransmitterTakesNext :
    let f := held (.trunk .west) (passing ⟨1, 9⟩ 2 false)
    let s := State.holding ringed 0 f
    (s.trunk .east).state = .up ∧ (s.trunk .east).helloWaiting = false ∧ (s.queue 0).frames = [f] ∧ s.staleVoice f = false
      ∧ ((s.upsets [⟨1, 0, true⟩]).trunkCutOff .east).fbf.cleanFor f = true ∧ s.mge.owed = [] ∧ s.mge.table.enables = 0
      ∧ (ringed.queue 0).frames = [] ∧ (node7.trunk .east).state ≠ .up ∧ (node7.trunk .east).state = .down
      ∧ ((ringed.setTrunk .east { upPort 8 with helloWaiting := true }).trunk .east).helloWaiting = true := by decide +kernel

/-- Voice that has waited 201 ms on the East queue, alone and ahead of a frame that is not voice. -/
theorem witness_TrunkTransmitterTakesNext_stale :
    let voice := held (.trunk .west) { passing ⟨1, 9⟩ 2 false with cls := .call, subtype := 4 }
    let g := held (.trunk .west) (passing ⟨1, 9⟩ 2 false)
    let s (rest : List Stored) : State := clocked 201 (ringed.setQueue 0 { Queue.powerOn with frames := voice :: rest })
    (s []).staleVoice voice = true ∧ (clocked 200 (s [])).staleVoice voice = false ∧ ((s []).queue (trunkQueue .east)).frames = voice :: []
      ∧ ((s [g]).queue (trunkQueue .east)).frames = voice :: g :: [] ∧ (s [g]).staleVoice g = false
      ∧ (((s [g]).upsets []).trunkCutOff .east).fbf.cleanFor g = true := by decide +kernel

/-! ### Chapter 2 -/

/-- Node 7 with SP2 in an attach state, its timer due at 500. -/
def attaching (st : AttachState) (tries : Nat) : State :=
  clocked 500 (ringed.setSpur 1 { SpurPort.powerOn with state := st, tries, attachDue := some 500 })

theorem witness_SpurAttachmentAdvancesOrFaults :
    (ringed.spur 1).state = .empty ∧ [AttachState.detected, .interrogating, .powered].all (fun st =>
        ((attaching st 2).spur 1).state == st && (attaching st 2).expired ((attaching st 2).spur 1).attachDue) = true
      ∧ ((attaching .interrogating 3).spur 1).tries = 3 ∧ ((attaching .interrogating 2).spur 1).tries < 3
      ∧ (busy.spur 1).state = .active ∧ busy.alc.alarms.length < 32 := by decide +kernel

theorem witness_SpurPortsEmpty :
    (ringed.spur 1).state = .empty ∧ (busy.spur 1).state ≠ .empty
      ∧ [0, 1, 6, 7].all (fun n => (given busy (order 15 [n])).commands [] (held (.trunk .east) (order 15 [n])) (order 15 [n])
          (.spurReset []) 1 && arg (commandArgs (order 15 [n]).payload) 1 == n) = true
      ∧ ((ringed.setSpur 1 { SpurPort.powerOn with state := .faulted }).spur 1).state = .faulted ∧ ringed.alarmsSound = true := by
  decide +kernel

theorem witness_LeavingActiveClearsLine :
    (busy.spur 1).state = .active ∧ ((after (.spurPresenceFall 1) busy).spur 1).state ≠ .active
      ∧ runs (.spurPresenceFall 1) busy = true := by decide +kernel

/-- A DESCRIPTOR of a power class with a native drop 5. -/
def descriptor (cls : Nat) : Frame := Frame.line 0 ([byte cls] ++ bytes16 32 ++ bytes32 0)

theorem witness_DescriptorAsksForPower :
    ((attaching .interrogating 1).spur 1).state = .interrogating ∧ ((attaching .interrogating 1).spur 1).granted = 0
      ∧ (List.range 5).all (fun c => spurCheck (descriptor c).encode == some (descriptor c)) = true
      ∧ descriptorOf (descriptor 0).payload = none ∧ descriptorOf (descriptor 4).payload = none
      ∧ (descriptorOf (descriptor 1).payload).isSome = true ∧ (descriptorOf (descriptor 3).payload).isSome = true
      ∧ (attaching .interrogating 1).grantedWatts + halfWatts 3 ≤ 10 ∧ 9 < (attaching .interrogating 1).grantedWatts + halfWatts 3 := by
  decide +kernel

theorem witness_ReadyMakesPortActive :
    let k : Descriptor := ⟨1, 32, Vector.replicate 16 .native⟩
    let s := ringed.setSpur 1 { SpurPort.powerOn with state := .powered, descriptor := some k, granted := 1 }
    (s.spur 1).state = .powered ∧ (s.spur 1).descriptor = some k ∧ spurCheck (Frame.line 1 []).encode = some (Frame.line 1 [])
      ∧ (s.spur 1).slots = Vector.replicate 4 none ∧ ((after (.readyReceive 1 (0x80 :: (Frame.line 1 []).encode)) s).spur 1).slots[(0 : Fin 4)] = none := by
  decide +kernel

theorem witness_SpurFramesReachClassifier :
    let d := Frame.built .bulk 0 3 ⟨0, 241⟩ ⟨0, 0⟩ [1]
    ((lined .native).spur 1).state = .active ∧ ((lined .native).spur 1).drops[(5 : Fin 16)].present = true
      ∧ ((lined .native).spur 1).drops[(5 : Fin 16)].kind ≠ .foreign ∧ spurCheck d.encode = some d ∧ spurCheck [] = none
      ∧ ((lined .foreign).spur 1).drops[(5 : Fin 16)].kind = .foreign ∧ (lined .native).mge.owed = []
      ∧ (lined .native).fbf.admits .bulk (blocksFor 252) = true := by decide +kernel

/-- The line of SP2 with an output of drop 5 in a state; in flight, by slot 0. -/
def output (out : OutState) (retry : Nat) (reported : Bool) : State :=
  let p := (lined .native).spur 1
  let p := p.setDrop 5 { p.drops[(5 : Fin 16)] with desired := 3, sent := 3, out, retry, faultReported := reported }
  clocked 500 ((lined .native).setSpur 1 (if out = .inFlight then p.setSlot 0 (some ⟨5, some 500, true, false⟩) else p))

theorem witness_ConfirmationSettlesDrop :
    (let f := Frame.line 4 [3]
     spurCheck f.encode = some f ∧ f.cls = .line ∧ f.subtype = 4 ∧ f.payload = 3 :: [])
      ∧ [OutState.settled, .pending, .unconfirmed, .inFlight].all (fun o =>
          ((output o 0 false).spur 1).reconciled 5 && !((output o 0 false).spur 1).drops[(5 : Fin 16)].faultReported) = true
      ∧ ((output .inFlight 0 false).spur 1).sentSlot 5 = some 0 ∧ ((output .pending 0 false).spur 1).sentSlot 5 = none
      ∧ 1 + 1 ≤ ((output .inFlight 1 false).spur 1).retryLimit ∧ ((output .inFlight 2 false).spur 1).retryLimit < 2 + 1
      ∧ (output .settled 0 true).alarmsSound = true := by decide +kernel

theorem witness_ConfirmTimerResendsOrGivesUp :
    [1, 2].all (fun r => (((output .inFlight r false).spur 1).slots[(0 : Fin 4)]).any fun x =>
        (output .inFlight r false).expired x.confirmDue && x.drop == 5) = true
      ∧ ((output .inFlight 1 false).spur 1).drops[(5 : Fin 16)].retry < ((output .inFlight 1 false).spur 1).retryLimit
      ∧ ((output .inFlight 2 true).spur 1).retryLimit ≤ ((output .inFlight 2 true).spur 1).drops[(5 : Fin 16)].retry
      ∧ ((output .inFlight 2 true).spur 1).drops[(5 : Fin 16)].faultReported = true := by decide +kernel

/-- At the limit with nothing reported, on outputs that stand as the alarm list drives them: the drop ends UNCONFIRMED, off its slot. -/
theorem witness_ConfirmTimerResendsOrGivesUp_limit :
    let x := output .inFlight 2 false
    let s := x.setSpur 1 ((x.spur 1).setDrop 5 { (x.spur 1).drops[(5 : Fin 16)] with desired := 0, confirmed := 3, sent := 0 })
    let t := after (.confirmTimerExpiry 1 0) s
    s.outputsSound = true ∧ ((s.spur 1).slots[(0 : Fin 4)]).any (fun y => y.drop == 5 && s.expired y.confirmDue) = true
      ∧ (∀ j : Fin 4, j ≠ 0 → (s.spur 1).slots[j] = none) ∧ (t.spur 1).drops[(5 : Fin 16)].desired = 0
      ∧ (t.spur 1).drops[(5 : Fin 16)].out = .unconfirmed ∧ (t.spur 1).slots[(0 : Fin 4)] = none := by decide +kernel

theorem witness_AttentionPollRuns :
    let q := { Poll.powerOn with state := .query, due := some 0 }
    let r := { Poll.powerOn with state := .request, current := 7, due := some 0 }
    ((polled Poll.powerOn).spur 3).state = .active ∧ ((polled Poll.powerOn).spur 3).poll.state = .idle
      ∧ ({ Poll.powerOn with holdOff := some 0 }.holdOff.all fun t => (polled q).reached t) = true
      ∧ ((polled q).spur 3).poll.state = .query ∧ (polled q).expired ((polled q).spur 3).poll.due = true
      ∧ ((polled r).spur 3).poll.state = .request ∧ (polled r).expired ((polled r).spur 3).poll.due = true
      ∧ ((polled r).spur 3).drops[(7 : Fin 16)].present = true ∧ ((polled r).spur 3).drops[(7 : Fin 16)].kind ≠ .foreign
      ∧ (polled r).alarmsSound = true
      ∧ [[0, 0, 0], [2, 0, 0], [2, 0, 1], [3, 1, 0x8F], [3, 1, 0x90], [4, 0, 3], [4, 0, 4], [5, 0, 0]].all (fun pl =>
          spurCheck (Frame.line 3 pl).encode == some (Frame.line 3 pl)) = true
      ∧ spurCheck (Frame.line 2 [0xFD, 0x7F, 0x02, 0x80]).encode = some (Frame.line 2 [0xFD, 0x7F, 0x02, 0x80])
      ∧ halfAt [0xFD, 0x7F, 0x02, 0x80] 0 + halfAt [0xFD, 0x7F, 0x02, 0x80] 2 = 65535 := by decide +kernel

/-- A report of fewer than 3 bytes from the drop asked, one from another drop, and one outside REQUEST. -/
theorem witness_AttentionPollRuns_short :
    let s := polled { Poll.powerOn with state := .request, current := 7, due := some 0 }
    let t := after (.lineReportReceive 3 (7 :: (Frame.line 3 [2, 0]).encode)) s
    [[], [2], [2, 0]].all (fun pl => spurCheck (Frame.line 3 pl).encode == some (Frame.line 3 pl)) = true
      ∧ (s.spur 3).state = .active ∧ (s.spur 3).poll.state = .request ∧ (polled Poll.powerOn |>.spur 3).poll.state ≠ .request
      ∧ [7, 9].all (fun a : Fin 16 => (s.spur 3).drops[a].present && (s.spur 3).drops[a].kind != .foreign) = true
      ∧ t.mge.has .pollError = true ∧ (t.spur 3).poll.state = .query := by decide +kernel

theorem witness_LineArbiterTakesInOrder :
    let p := (output .inFlight 0 false).spur 1
    let f := held (.trunk .west) (passing ⟨7, 85⟩ 2 false)
    (frameLeft ringed { p with setsWaiting := [0] }).slots[(0 : Fin 4)] = some ⟨5, some 500, true, false⟩
      ∧ (frameLeft ringed { p with poll := { p.poll with waiting := true }, tx := some (.attnQuery .urgent) }).poll.waiting = true
      ∧ (frameLeft ringed { SpurPort.powerOn with state := .interrogating, describeWaiting := true, tx := some .describe }).describeWaiting = true
      ∧ (frameLeft ringed SpurPort.powerOn).state ≠ .active
      ∧ (let s := State.holding (lined .native) (spurQueue 1) f
         (s.queue (spurQueue 1)).frames = [f] ∧ s.staleVoice f = false ∧ ((s.upsets []).lineLeft 1).fbf.cleanFor f = true) := by
  decide +kernel

/-- Voice that has waited 201 ms on the queue of SP2, alone and ahead of a frame that is not voice. -/
theorem witness_LineArbiterTakesInOrder_stale :
    let voice := held (.trunk .west) { passing ⟨7, 85⟩ 2 false with cls := .call, subtype := 4 }
    let g := held (.trunk .west) (passing ⟨7, 85⟩ 2 false)
    let s (rest : List Stored) : State := clocked 201 ((lined .native).setQueue (spurQueue 1) { Queue.powerOn with frames := voice :: rest })
    let y := frameLeft (s []) ((s []).spur 1)
    y.state = .active ∧ y.poll.waiting = false ∧ y.setsWaiting = [] ∧ (s []).staleVoice voice = true
      ∧ (clocked 200 (s [])).staleVoice voice = false ∧ ((s []).queue (spurQueue 1)).frames = voice :: []
      ∧ ((s [g]).queue (spurQueue 1)).frames = voice :: g :: [] ∧ (s [g]).staleVoice g = false
      ∧ (((s [g]).upsets []).lineLeft 1).fbf.cleanFor g = true ∧ (s [g]).mge.owed = [] ∧ (s [g]).mge.table.enables = 0 := by
  decide +kernel

/-! ### Chapters 3 and 4 -/

/-- A frame waits for CLS, in block 0. -/
def classifying (s : State) (w : Waiting) : State :=
  (s.setCls { s.cls with waiting := [w] }).setFbf { s.fbf with free := s.fbf.free.drop 1, held := [0] }

theorem witness_NativeFramesAreStampedAndSent :
    let w (dst : Addr) : Waiting := ⟨.spur 1, 5, .native, 9, { held (.spur 1) (Frame.built .air 0 3 dst ⟨0, 0⟩ [0, 1]) with entry := none }⟩
    let s := classifying (lined .native) (w ⟨0, 241⟩)
    s.cls.waiting.find? (·.port == .spur 1) = some (w ⟨0, 241⟩) ∧ (s.upsets [⟨1, 0, true⟩]).fbf.cleanFor (w ⟨0, 241⟩).frame = true
      ∧ s.mge.owed = [] ∧ s.windowsSound = true ∧ s.station? 1 5 = some 85 ∧ ringed.station? 1 5 = none
      ∧ s.up (s.cls.direction[(62 : Fin 64)]) = true ∧ s.room (trunkQueue .east) 1 = true ∧ node7.islandFlag = true
      ∧ s.entryPort 63 = some .east ∧ s.fbf.admits .air 1 = true ∧ s.room localQueue 1 = true := by decide +kernel

theorem witness_FramesFromTrunkAreDelivered :
    let w (st : Nat) : Waiting := ⟨.trunk .east, 0, .native, 0, { held (.trunk .east) (passing ⟨7, st⟩ 2 false) with entry := none }⟩
    let s := classifying (lined .native) (w 85)
    s.cls.waiting.find? (·.port == .trunk .east) = some (w 85) ∧ (s.upsets []).fbf.cleanFor (w 85).frame = true
      ∧ (w 85).frame.blocks ≠ [] ∧ s.mge.owed = [] ∧ s.windowsSound = true ∧ s.mge.table.enables = 0 ∧ s.station? 1 5 = some 85
      ∧ (∀ j i, s.station? j i = some 85 → j = 1) ∧ (∀ j i, s.station? j i ≠ some 239) ∧ s.room (spurQueue 1) 1 = true
      ∧ s.fbf.reserve + 12 ≤ s.fbf.free.length ∧ (∀ n, s.room (spurQueue n) (max 1 (blocksFor 14)) = true) := by decide +kernel

theorem witness_ForeignFramesMatchOrDefault :
    let w : Waiting := ⟨.spur 1, 5, .foreign, 14, { held (.spur 1) (passing ⟨7, 1⟩ 1 false) with body := .raw radioFrame, entry := none }⟩
    let s := classifying (lined .foreign) w
    let echo : Page := { Page.powerOn with used := 1 }
    let s' := s.setCls { s.cls with
      setA := { cascade with defaults := RuleSet.powerOn.defaults.set 1 ⟨true, ⟨62, 17⟩⟩ }, pages := s.cls.pages.set 5 echo }
    s.cls.waiting.find? (·.port == .spur 1) = some w ∧ (s.upsets []).fbf.cleanFor w.frame = true ∧ w.frame.blocks ≠ [] ∧ s.mge.owed = []
      ∧ s.windowsSound = true ∧ s.station? 1 5 = some 85 ∧ (s'.cls.liveSet.classify 1 radioFrame).isSome = true
      ∧ (s'.cls.liveSet.classify 1 (radioFrame.take 63)).map (fun m => m.filter.page) = some (some 5) ∧ 0 < s'.cls.pages[(5 : Fin 8)].used
      ∧ s'.cls.liveSet.classify 1 [1] = none ∧ s'.cls.liveSet.defaults[(1 : Fin 6)].present = true
      ∧ s.cls.liveSet.classify 1 [1] = none ∧ s.cls.liveSet.defaults[(1 : Fin 6)].present = false
      ∧ s.active 1 = true ∧ (s.spur 1).drops[(5 : Fin 16)].present = true ∧ s.fbf.reserve + 4 ≤ s.fbf.free.length
      ∧ (∀ q, s.room q 2 = true) := by decide +kernel

/-- SP2's drop 5 sends an AIR frame to a station of every node; the frame is in block 0 and `f` changes the node. -/
def toAll (station : Nat) (s : State) : State :=
  classifying s ⟨.spur 1, 5, .native, 9, { held (.spur 1) (Frame.built .air 0 3 ⟨63, station⟩ ⟨0, 0⟩ [0, 1]) with entry := none }⟩

/-- A frame for node 63 of another station than 241 or 255: with room for both copies; with none in the pool for the local one; on a full
trunk queue; and with no trunk port UP. -/
theorem witness_NativeFramesAreStampedAndSent_all :
    let limits (s : State) : State := s.setMge { s.mge with table := { s.mge.table with queueLimits := Vector.replicate 9 8 } }
    let full := (limits (toAll 85 (lined .native))).setQueue 0 { Queue.powerOn with frames := [queued 1 12 6, queued 2 3 2] }
    let down := (toAll 85 (lined .native)).setTrunk .east TrunkPort.powerOn |>.setTrunk .west TrunkPort.powerOn
    [toAll 85 (lined .native), toAll 241 (lined .native), (toAll 85 (lined .native)).setFbf { (toAll 85 ringed).fbf with free := List.range 16 }
        , full, down].all (fun s => (s.cls.waiting.find? (·.port == .spur 1)).isSome && s.mge.owed == [] && s.windowsSound
          && s.mge.table.enables == 0 && s.node != 63) = true
      ∧ (toAll 85 (lined .native)).entryPort 63 = some .east ∧ (toAll 85 (lined .native)).room (trunkQueue .east) 1 = true
      ∧ (toAll 85 (lined .native)).fbf.admits .air 1 = true ∧ (lined .native).station? 1 5 = some 85
      ∧ ({ (toAll 85 ringed).fbf with free := List.range 16 } : Buffer).admits .air 1 = false
      ∧ 8 < occupancy ((full.queue 0).frames.filter (3 ≤ ·.level)) + 1 ∧ full.entryPort 63 = some .east ∧ down.entryPort 63 = none := by
  decide +kernel

/-- Foreign bytes from SP2's drop 5, in block 0 of a small buffer; the live set is the cascade's, with a default destination, and reply
page 5 has one byte. -/
def foreign (bytes : List Byte) (s : State) : State :=
  let x := classifying (oneBank 0 s) ⟨.spur 1, 5, .foreign, 14, { held (.spur 1) (passing ⟨7, 1⟩ 1 false) with body := .raw bytes, entry := none }⟩
  x.setCls { x.cls with
    setA := { cascade with defaults := RuleSet.powerOn.defaults.set 1 ⟨true, ⟨62, 17⟩⟩ }
    pages := x.cls.pages.set 5 { Page.powerOn with used := 1 } }

theorem witness_ForeignFramesMatchOrDefault_echo :
    let heard := radioFrame.take 63
    let s := foreign heard (lined .foreign)
    let few (s : State) (n : Nat) : State := s.setFbf { s.fbf with free := List.range' 1 n }
    let gone := foreign heard ((lined .foreign).setSpur 1 (((lined .foreign).spur 1).setDrop 5
      { ((lined .foreign).spur 1).drops[(5 : Fin 16)] with present := false }))
    [s, few s 16, gone].all (fun x => (x.cls.waiting.find? (·.port == .spur 1)).isSome && x.mge.owed == [] && x.windowsSound
        && x.mge.table.enables == 0 && x.station? 1 5 == some 85
        && ((x.cls.liveSet.classify 1 heard).map fun m => (m.filter.reply, m.filter.page)) == some (.echo, some 5)) = true
      ∧ 0 < s.cls.pages[(5 : Fin 8)].used ∧ acceptedByRule s.fbf (.raw [0]) ∧ ¬acceptedByRule (few s 16).fbf (.raw [0])
      ∧ s.active 1 = true ∧ (s.spur 1).drops[(5 : Fin 16)].present = true ∧ (gone.spur 1).drops[(5 : Fin 16)].present = false
      ∧ s.room (spurQueue 1) 4 = true ∧ gone.poolSound = true ∧ gone.banksSound = true ∧ acceptedByRule gone.fbf (.raw [0]) := by
  unfold acceptedByRule; dsimp only; decide +kernel

/-- Bytes of one block whose drift frame needs two, with a block to give and with none; and bytes from a drop with no station. -/
theorem witness_ForeignFramesMatchOrDefault_grows :
    let s := foreign (List.replicate 120 0) (lined .foreign)
    let lost := (foreign [1] (lined .foreign)).setCls { (foreign [1] (lined .foreign)).cls with windows := Vector.replicate 6 ⟨0, 0⟩ }
    s.cls.liveSet.classify 1 (List.replicate 120 0) = none ∧ s.cls.liveSet.defaults[(1 : Fin 6)].present = true
      ∧ s.station? 1 5 = some 85 ∧ 1 < blocksFor (12 + 120) ∧ s.fbf.admits .bulk 1 = true
      ∧ ({ s.fbf with free := List.range 16 } : Buffer).admits .bulk 1 = false ∧ s.entryPort 62 = some .east
      ∧ s.room (trunkQueue .east) 2 = true ∧ lost.station? 1 5 = none ∧ (lost.cls.waiting.find? (·.port == .spur 1)).isSome = true
      ∧ lost.windowsSound = true := by decide +kernel

/-- A request of the control station stands on LOCAL, and is the work of a row. -/
def asking (s : State) (d : Frame) (row : Instr) : Bool := (given s d).asks [] (held (.trunk .east) d) d row

/-- A COMMAND of the control station stands on LOCAL, and is the work of a row that takes `n` arguments. -/
def ordering (s : State) (code : Nat) (args : List Nat) (row : Instr) : Bool :=
  (given s (order code args)).commands [] (held (.trunk .east) (order code args)) (order code args) row args.length
    && (List.range args.length).all fun i => arg (commandArgs (order code args).payload) (i + 1) == args.getD i 0

theorem witness_ExchangeRulesetSwapsSets :
    [ringed, ringed.setCls { ringed.cls with live := .b, generation := 255 }].all (fun s =>
      asking s (order 14 []) (.exchangeRuleset []) && s.cls.generation ≤ 255) = true := by decide +kernel

theorem witness_ReplySumsToAllOnes :
    let fs := [12, 1, 10, 0, 4, 0, 2, 9, 3, 1, 0, 0, 0, 0, 0, 0, 0xA55A, 0x10, 0, 0x0D58, 0x0100] ++ List.replicate 27 0
    fs.length = 48 ∧ firstBad (pageChecks fs) = none ∧ (Page.ofFields Page.powerOn fs).hasSum = true := by decide +kernel

/-- Node 7 with bank 2 in a state and a frame in it, and the others in service or retired. -/
def banked (st : BankState) (others : Bool) (retirePending : Bool) : State :=
  let b : Bank := { Buffer.powerOn.banks[(2 : Fin 4)] with state := st, retirePending, scrubDue := some 10 }
  let rest := if others then Buffer.powerOn.banks else Vector.replicate 4 { b with state := .retired, retirePending := false }
  clocked 10 (ringed.setFbf { Buffer.powerOn with banks := rest.set 2 b, held := [130] })

theorem witness_BanksRetireAndReturn :
    [BankState.inService, .retiring, .retired, .restoring].all (fun st => [true, false].all fun o =>
        ordering (banked st o o) 16 [2] (.bankRetire []) && ordering (banked st o o) 17 [2] (.bankRestore [])
          && ((given (banked st o o) (order 16 [2])).taken [] (held (.trunk .east) (order 16 [2]))).bank 2 == (banked st o o).bank 2) = true
      ∧ ordering ringed 16 [4] (.bankRetire []) = true ∧ ordering ringed 17 [4] (.bankRestore []) = true
      ∧ (banked .restoring false false).expired ((banked .restoring false false).bank 2).scrubDue = true
      ∧ (banked .restoring false false).alarmsSound = true ∧ (banked .restoring false false).alc.find .bankFault 3 = none
      ∧ (∀ j, ((banked .restoring false false).bank j).retirePending = false) := by decide +kernel

/-- Bank 0, in service with these counts, alone or beside bank 1; no control station. -/
def worn (others : Bool) (corrected uncorrectable : Nat) (s : State) : State :=
  let b : Bank := { Buffer.powerOn.banks[(0 : Fin 4)] with corrected, uncorrectable }
  let banks := s.fbf.banks.set 0 b
  let s := s.setFbf (if others then { s.fbf with
    banks := banks.set 1 Buffer.powerOn.banks[(0 : Fin 4)], free := s.fbf.free ++ List.range' 64 64 } else { s.fbf with banks })
  s.setMge { s.mge with table := { s.mge.table with station1 := ⟨0, 0⟩, correctedLimit := 10 } }

/-- The East transmitter comes to a frame with a word in error; `others`: bank 1 is in service beside bank 0, which holds the frame. -/
def reading (others : Bool) (corrected uncorrectable : Nat) : State :=
  worn others corrected uncorrectable (State.holding (oneBank 0 ringed) 0 (held (.trunk .west) (passing ⟨1, 9⟩ 2 false)))

theorem witness_BanksRetireAndReturn_reads :
    [true, false].all (fun others => [(0, 0), (8, 0), (9, 0), (65535, 0), (0, 1), (9, 1)].all fun (c, n) =>
        let s := reading others c n
        s.poolSound && s.up .east && !(s.trunk .east).helloWaiting && (s.queue (trunkQueue .east)).frames.length == 1
          && (s.queue (trunkQueue .east)).frames.all (fun f => !s.staleVoice f && f.blocks == [0] && f.body.size == 14)
          && s.mge.owed.isEmpty && s.mge.table.enables == 0 && s.alc.alarms.isEmpty
          && [true, false].all fun fatal =>
            ((s.upsets [⟨0, 1, fatal⟩]).trunkCutOff .east).fbf.bad == [⟨0, 1, fatal⟩]
              && ((s.upsets [⟨0, 1, fatal⟩]).trunkCutOff .east).bank 0 == { Buffer.powerOn.banks[(0 : Fin 4)] with corrected := c, uncorrectable := n })
      = true := by decide +kernel

/-- The frame of `reading`. -/
def readFrame0 : Stored := held (.trunk .west) (passing ⟨1, 9⟩ 2 false)

/-- A drop's frame for CLS, an alarm frame on LOCAL, and a frame on the queue of SP2: each in block 0. -/
def waiting0 : Waiting := ⟨.spur 1, 5, .native, 9, { held (.spur 1) (Frame.built .air 0 3 ⟨0, 241⟩ ⟨0, 0⟩ [0, 1]) with entry := none }⟩
def local0 : Stored := held (.trunk .east) (frameFor 240 .alarm 0 1 ⟨3, 240⟩ [])
def spur0 : Stored := held (.trunk .west) (passing ⟨7, 85⟩ 2 false)

/-- A further frame on a queue, in block 1. -/
def behind (q : Fin 9) (f : Stored) (s : State) : State :=
  (s.setQueue q { s.queue q with frames := (s.queue q).frames ++ [{ f with blocks := [1] }] }).setFbf
    { s.fbf with free := s.fbf.free.erase 1, held := s.fbf.held ++ [1] }

/-- The premises that every place of a read has: the account, no sender of frames, and word 1 of block 0, which the bytes of the frame
occupy, the one word in error once the read begins. -/
def meetsWord1 (fatal : Bool) (s x : State) (f : Stored) : Bool :=
  s.poolSound && s.mge.owed.isEmpty && s.mge.table.enables == 0 && s.mge.table.station1 == ⟨0, 0⟩ && s.mge.table.station2 == ⟨0, 0⟩
    && x.fbf.bad == [⟨0, 1, fatal⟩] && f.blocks == [0] && 1 < (f.body.size + 7) / 8

theorem witness_BanksRetireAndReturn_places :
    [(true, 1, true), (false, 0, true), (true, 0, false)].all (fun (others, n, fatal) =>
      let u : Upsets := [⟨0, 1, fatal⟩]
      let c := worn others 0 n (classifying (oneBank 0 (lined .native)) waiting0)
      let l := worn others 0 n (State.holding (oneBank 0 (lined .native)) localQueue local0)
      let p := worn others 0 n (State.holding (oneBank 0 (lined .native)) (spurQueue 1) spur0)
      let k := reading others 0 n
      let y := frameLeft p (p.spur 1)
      meetsWord1 fatal c ((c.upsets u).setCls { c.cls with waiting := c.cls.waiting.erase waiting0 }) waiting0.frame
        && c.cls.waiting.find? (·.port == .spur 1) == some waiting0
        && meetsWord1 fatal l ((l.upsets u).unqueue localQueue local0) local0 && !l.staleVoice local0 && l.outputsSound
        && (l.queue localQueue).frames.find? l.endpointReady == some local0 && l.alc.alarms.length == 0
        && meetsWord1 fatal p ((p.upsets u).lineLeft 1) spur0 && !p.staleVoice spur0 && (p.queue (spurQueue 1)).frames == [spur0]
        && y.state == .active && !y.poll.waiting && y.setsWaiting.isEmpty
        && meetsWord1 fatal k ((k.upsets u).trunkCutOff .east) readFrame0 && (k.queue (trunkQueue .east)).frames == [readFrame0]
        && (k.bank 0).uncorrectable == n && k.mge.table.correctedLimit == 10) = true := by decide +kernel

/-- R74: the read has ended at an uncorrectable word, and the next frame goes: to its endpoint, to the line, to the trunk. -/
theorem witness_BanksRetireAndReturn_next :
    let l := worn true 0 0 (behind localQueue local0 (State.holding (oneBank 0 (lined .native)) localQueue local0))
    let y := (((l.upsets [⟨0, 1, true⟩]).unqueue localQueue local0).readFrame local0).2
    let d := frameFor 240 .alarm 0 1 ⟨3, 240⟩ []
    let p := worn true 0 0 (behind (spurQueue 1) spur0 (State.holding (oneBank 0 (lined .native)) (spurQueue 1) spur0))
    let k := worn true 0 0 (behind (trunkQueue .east) readFrame0 (State.holding (oneBank 0 ringed) 0 readFrame0))
    let p' := after (.spurTransmitDone 1 [⟨0, 1, true⟩]) p
    let k' := after (.trunkTransmitDone .east [⟨0, 1, true⟩]) k
    (l.poolSound = true ∧ y.hands [] 240 { local0 with blocks := [1] } d = true ∧ stationClass 240 = some d.cls
        ∧ localRow d [] = .alarmFrameDiscard [] ∧ y.fbf.held = [1] ∧ (y.bank 0).uncorrectable = 1 ∧ y.mge.has .bankChange = true)
      ∧ (p.poolSound = true ∧ (p'.spur 1).tx = some (.stored { spur0 with blocks := [1] }) ∧ (p'.queue (spurQueue 1)).frames = []
        ∧ p'.fbf.held = [1])
      ∧ (k.poolSound = true ∧ (k'.trunk .east).tx = some (.stored { readFrame0 with blocks := [1] })
        ∧ (k'.queue (trunkQueue .east)).frames = [] ∧ k'.fbf.held = [1]) := by decide +kernel

/-- R74, R75: the second uncorrectable word retires the bank, when another is in service. -/
theorem test_bank_worn_out :
    let t := after (.trunkTransmitDone .east [⟨0, 1, true⟩]) (reading true 0 1)
    (t.bank 0).state = .retired ∧ (t.trunk .east).tx = none ∧ t.mge.has .bankChange = true
      ∧ ((after (.trunkTransmitDone .east [⟨0, 1, true⟩]) (reading false 0 1)).bank 0).retirePending = true := by decide +kernel

/-! ### Chapters 5 and 6 -/

theorem witness_SampleIsEvaluated :
    let s (x : Channel) (d : Frame) : State := given (ringed.setChannel 17 x) d
    let d (tag subtype : Nat) (payload : List Byte) : Frame := frameFor 241 .air subtype tag ⟨7, 44⟩ payload
    [d 17 0 (bytes16 0xBFFF), d 17 0 (bytes16 0xC000), d 17 0 [1], d 48 0 [1, 2], d 17 2 [], d 17 7 []].all (fun f =>
        (s methane f).hands [] 241 (held (.trunk .east) f) f && f.subtype != 1) = true
      ∧ methane.cfg.enabled = true ∧ methane.cfg.source = (d 17 0 []).src
      ∧ halfAt (bytes16 0xBFFF) 0 / 16384 ≠ 3 ∧ halfAt (bytes16 0xC000) 0 / 16384 = 3 ∧ ringed.alarmsSound = true := by decide +kernel

/-- Channel 17 in zone 14, which is in TRIP with its alarms listed, and segment 21 GAS_CLOSED there. -/
def faulted (state : ChState) (fail failTrips : Bool) : State :=
  let s := clocked 30000 ((decline { Segment.powerOn with state := .gasClosed } []).setChannel 17 { methane with
    cfg := { methane.cfg with zone := 14, shift := 0, failTrips }, state, computed := if fail then .fault else .normal
    causes := ⟨false, false, false, fail⟩, inhibitEnd := 30000 })
  let s := s.setZone 13 { Zone.powerOn with evaluated := true, localState := .trip, combined := .trip }
  s.setAlc { s.alc with
    serial := 2, born := 3, zoneCopy := s.alc.zoneCopy.set 13 .trip
    alarms := [⟨1, .gasTrip, 14, 14, none, 1, 0, true, false, 0, true, false, 1⟩]
      ++ if fail ∧ state ≠ .inhibited then [⟨2, .channelFault, 17, 14, none, 3, 0, true, false, 0, true, false, 2⟩] else [] }

/-- What is said of the evaluation of zone 14 can be read off the state: its list, its outputs and its segments stand. -/
def stands (s : State) : Bool :=
  s.alarmsSound && s.outputsSound && s.gasSound && decide (s.alc.alarms.length < 31)
    && (allFin 16).all fun a => s.alc.actions[a].mode != .lockdown

/-- The sample that ends a fault: CHANNEL_FAULT and GAS_TRIP clear and the segment reopens; or it trips the zone by itself. -/
theorem witness_SampleIsEvaluated_fault :
    let d (word : Nat) : Frame := frameFor 241 .air 0 17 ⟨7, 44⟩ (bytes16 word)
    let s (word : Nat) (quiet : Bool) : State :=
      let s := faulted .fault true true
      given (if quiet then (s.setZone 13 { s.zone 13 with localState := .alert, combined := .alert }).clearAlarm .gasTrip 14 else s) (d word)
    let t (word : Nat) (quiet : Bool) : State := after (.sampleReceive []) (s word quiet)
    [false, true].all (fun q => [900, 0x4000].all fun word =>
        stands (s word q) && (s word q).hands [] 241 (held (.trunk .east) (d word)) (d word)) = true
      ∧ ((s 900 false).channel 17).causes.fail = true ∧ (t 900 false).alc.holdsActive .channelFault 17 = false
      ∧ (t 900 false).alc.holdsActive .gasTrip 14 = false ∧ ((t 900 false).segment 4).state = .opened
      ∧ (s 0x4000 true).alc.holdsActive .gasTrip 14 = false ∧ (t 0x4000 true).alc.holdsActive .gasTrip 14 = true := by decide +kernel

/-- The five commands on a channel whose zone they move, the first with FAIL to come, the others with FAIL set: the premises that the
evaluation's clauses have, and what it does. -/
theorem witness_ChannelsExpireAndObeyCommands_zone :
    let clearZone (s : State) : State := (s.setZone 13 { s.zone 13 with localState := .clear, combined := .clear }).clearAlarm .gasTrip 14
    let stale := clearZone (faulted .normal false true)
    let ends := clearZone (faulted .inhibited true true)
    let starts := faulted .fault true true
    let reset := (faulted .trip false true).setChannel 17 { (faulted .trip false true).channel 17 with latched := true, computed := .trip }
    let start := after (.inhibit []) (given starts (order 2 [17, 5]))
    let freed := after (.resetTrip []) (given reset (order 1 [17]))
    [stale, ends, starts, reset].all stands = true ∧ (stale.channel 17).state ≠ .inhibited
      ∧ (after (.staleExpiry 17) stale).alc.holdsActive .gasTrip 14 = true ∧ ((after (.staleExpiry 17) stale).zone 13).combined = .trip
      ∧ (ends.channel 17).state = .inhibited ∧ ends.reached (ends.channel 17).inhibitEnd = true
      ∧ (after (.inhibitExpiry 17) ends).alc.holdsActive .gasTrip 14 = true
      ∧ ordering ends 3 [17] (.endInhibit []) = true ∧ (after (.endInhibit []) (given ends (order 3 [17]))).alc.holdsActive .gasTrip 14 = true
      ∧ ordering starts 2 [17, 5] (.inhibit []) = true ∧ start.alc.holdsActive .gasTrip 14 = false
      ∧ start.alc.holdsActive .channelFault 17 = false ∧ (start.segment 4).state = .opened
      ∧ ordering reset 1 [17] (.resetTrip []) = true ∧ freed.alc.holdsActive .gasTrip 14 = false ∧ (freed.segment 4).state = .opened := by
  decide +kernel

/-- Channel 17 went stale while it was INHIBITED, and a zone of 0: no CHANNEL_FAULT, and no zone to hand it to. -/
theorem witness_ChannelsExpireAndObeyCommands_inhibited :
    let s := faulted .inhibited false true
    let z := s.setChannel 17 { s.channel 17 with cfg := { (s.channel 17).cfg with zone := 0 } }
    [s, z].all (fun s =>
        (s.channel 17).cfg.enabled && !(s.channel 17).causes.fail
          && decide ((s.channel 17).cfg.staleLimit * 1000 ≤ (s.time - (s.channel 17).lastValid).toNat)) = true
      ∧ (after (.staleExpiry 17) s).alc.holdsActive .channelFault 17 = false ∧ (after (.staleExpiry 17) z).zones = z.zones := by decide +kernel

/-- Channel 17 in a state, its inhibit over at 30000. -/
def channelIn (state : ChState) (latched fail : Bool) : State :=
  clocked 30000 (ringed.setChannel 17 { methane with
    state, latched, computed := .normal, causes := ⟨false, false, false, fail⟩, inhibitEnd := 30000 })

theorem witness_ChannelsExpireAndObeyCommands :
    (let s := channelIn .normal false false
     (s.channel 17).cfg.enabled = true ∧ (s.channel 17).cfg.staleLimit * 1000 ≤ (s.time - (s.channel 17).lastValid).toNat)
      ∧ (let s := channelIn .inhibited false true
         (s.channel 17).state = .inhibited ∧ s.reached (s.channel 17).inhibitEnd = true ∧ (s.channel 17).computed ≠ .inhibited)
      ∧ [channelIn .normal false false, channelIn .normal true false, channelIn .normal true true, channelIn .inhibited false false].all
          (fun s => ordering s 1 [17] (.resetTrip []) && ordering s 2 [17, 0] (.inhibit []) && ordering s 3 [17] (.endInhibit [])) = true
      ∧ ordering ringed 1 [48] (.resetTrip []) = true ∧ ordering ringed 2 [48, 31] (.inhibit []) = true
      ∧ ordering ringed 3 [48] (.endInhibit []) = true ∧ (ringed.channel 47).cfg.enabled = false := by decide +kernel

/-- R113: the WARN of zone 12's channel raises GAS_WARN, and its next NORMAL clears it. -/
theorem test_gas_warn :
    let run (s : State) (word : Nat) : State := after (.sampleReceive []) (given s (frameFor 241 .air 0 17 ⟨7, 44⟩ (bytes16 word)))
    let s := ringed.setChannel 17 { methane with cfg := { methane.cfg with shift := 0 } }
    let t := run s 1750
    let u := run { t with egs := ringed.egs } 900
    (t.channel 17).state = .warn ∧ (t.zone 11).gasWarn = true ∧ t.alc.holdsActive .gasWarn 12 = true
      ∧ (u.channel 17).state = .normal ∧ (u.zone 11).gasWarn = false ∧ u.alc.holdsActive .gasWarn 12 = false := by decide +kernel

theorem witness_ForceZoneTripAndRelease :
    [0, 1, 31, 32].all (fun n => ordering ringed 4 [n] (.forceZoneTrip []) && ordering ringed 5 [n] (.releaseZoneForce [])) = true
      ∧ (ringed.zone 30).force ≠ true ∧ (ringed.zone 30).force = false := by decide +kernel

/-- Node 7's zone 4 with reporters. -/
def reported (n : Nat) (st : RepState) : State :=
  clocked 35000 (ringed.setZone 3 { Zone.powerOn with
    enabled := true, evaluated := true, reporters := (List.range n).map fun i => ⟨20 + i, st, 0⟩ })

theorem witness_ReportersComeAndAge :
    let d (node tag st : Nat) : Frame := frameFor 241 .air 1 tag ⟨node, 241⟩ (bytes16 st)
    [(7, .clear), (8, .clear), (8, .alert), (8, .stale)].all (fun (n, st) =>
        [d 27 4 0, d 27 4 2, d 20 4 1, d 62 31 2, d 63 4 0, d 7 4 0, d 27 32 0, d 27 4 3].all fun f =>
          (given (reported n st) f).hands [] 241 (held (.trunk .east) f) f) = true
      ∧ ((reported 8 .alert).zone 3).reporters.any (fun r =>
          r.node == 20 && r.state != .stale && 35000 ≤ ((reported 8 .alert).time - r.time).toNat) = true
      ∧ [.clear, .stale].all (fun st => ordering (reported 8 st) 6 [4, 27] (.clearReporter [])) = true
      ∧ ordering ringed 6 [0, 1] (.clearReporter []) = true ∧ ordering ringed 6 [32, 1] (.clearReporter []) = true
      ∧ ((reported 2 .stale).zone 3).reporters = [⟨20, .stale, 0⟩] ++ ⟨21, .stale, 0⟩ :: []
      ∧ (∀ r ∈ ((clocked 34999 (reported 1 .alert)).zone 3).reporters,
          r.node = 20 → r.state = .stale ∨ ((clocked 34999 (reported 1 .alert)).time - r.time).toNat < 35000)
      ∧ (∀ r ∈ ((reported 1 .stale).zone 3).reporters, r.node = 20 → r.state = .stale)
      ∧ (((reported 8 .clear).zone 3).reporters.map (·.node)).Nodup ∧ ((reported 8 .clear).zone 3).reporters.length ≤ 8 := by
  decide +kernel

theorem witness_ZoneReportGoesOutPeriodically :
    let s := clocked 10000 (ringed.setZone 30 { Zone.powerOn with enabled := true, force := true })
    (s.zone 30).enabled = true ∧ 10000 ≤ (s.time - (s.zone 30).lastSent).toNat ∧ (s.zone 30).force = true
      ∧ (ringed.zone 30).enabled = false ∧ s.entryPort 63 = some .east ∧ s.node ≠ 63 ∧ s.fbf.admits .air 1 = true
      ∧ s.room (trunkQueue .east) 1 = true ∧ s.mge.owed = [] := by decide +kernel

theorem witness_RelayFaultFollowsFeedback :
    let s (r : Relay) : State := clocked 200 (ringed.setRelay 3 r)
    let r : Relay := { Relay.powerOn with energised := true, mismatchDue := some 200 }
    false ≠ ((s { r with closed := true }).relay 3).closed ∧ false ≠ ((s { r with closed := true }).relay 3).energised
      ∧ true ≠ ((s r).relay 3).closed ∧ true = ((s r).relay 3).energised ∧ ((s r).relay 3).fault = false
      ∧ ((s { r with fault := true }).relay 3).fault = true ∧ ringed.alarmsSound = true
      ∧ (s r).expired ((s r).relay 3).mismatchDue = true ∧ ((s r).relay 3).func ≠ .severityAtLeast := by decide +kernel

/-- A SEVERITY_AT_LEAST relay that its own fault leaves where it is, or moves (the fault then ends at once). -/
theorem witness_RelayFaultFollowsFeedback_severity :
    let s (severity : Nat) : State :=
      (busy.setAlc { busy.alc with actions := Vector.replicate 16 ⟨.announceTrip, 12, 0, .sourceDrop⟩ }).setRelay 3 { Relay.powerOn with
        func := .severityAtLeast, severity, closed := true, mismatchDue := some 0 }
    let t (severity : Nat) : State := after (.mismatchTimerExpiry 3) (s severity)
    (s 13).outputsSound = true ∧ (t 13).outputsSound = true ∧ (t 13).alarmsSound = true ∧ ((t 13).relay 3).fault = true
      ∧ ((t 13).relay 3).energised = false ∧ ((t 13).relay 3).closed ≠ false ∧ (s 12).outputsSound = true ∧ (s 12).alarmsSound = true
      ∧ ((t 12).relay 3).energised = true ∧ ((t 12).relay 3).closed = true ∧ ((t 12).relay 3).fault = false := by decide +kernel

/-! ### Chapter 7 -/

/-- A SETUP for party B with a width and a precedence code. -/
def setup (src : Addr) (tag : Nat) (a b : Addr) (width prec : Nat) : Frame :=
  { frameFor 243 .call 0 tag src (bytes16 a.code ++ bytes16 b.code ++ [byte width, byte prec]) with zone := 9 }

/-- The line of SP2 with a frame on LOCAL that has come by a port. -/
def calling (p : PortId) (d : Frame) (cs : List Circuit) : State :=
  State.holding ((lined .native).setCsw { circuits := cs, nextId := 15 }) localQueue (held p d)

theorem witness_setups_are_taken :
    [setup ⟨7, 85⟩ 0 ⟨7, 85⟩ ⟨62, 239⟩ 2 0, setup ⟨7, 85⟩ 0 ⟨7, 85⟩ ⟨1, 1⟩ 1 3, setup ⟨7, 85⟩ 0 ⟨7, 85⟩ ⟨1, 1⟩ 0 0
      , setup ⟨7, 85⟩ 0 ⟨7, 85⟩ ⟨1, 1⟩ 3 0, setup ⟨7, 85⟩ 0 ⟨7, 85⟩ ⟨1, 1⟩ 1 4].all (fun d =>
        let s := calling (.spur 1) d []
        s.hands [] 243 (held (.spur 1) d) d && d.subtype == 0 && d.dst.node != 63 && s.mge.table.enables == 0 && s.mge.owed == []
          && s.csw.nextId < 16) = true := by decide +kernel

/-- The circuit that the first of these SETUPs asks for, with the id of the node's last place. -/
def asked : Circuit := ⟨112, ⟨7, 85⟩, ⟨62, 239⟩, .spur 1, .trunk .east, 2, .normal, 9, .pending, 10000, 0, 0⟩

theorem witness_CallSetupIsAdmitted :
    let d := setup ⟨7, 85⟩ 0 ⟨7, 85⟩ ⟨62, 239⟩ 2 0
    let s := calling (.spur 1) d []
    asksFor s (.spur 1) d asked .normal ∧ givesId s (.spur 1) d asked.id 0 ∧ s.csw.circuits.length < 32
      ∧ leadsTo s (.spur 1) asked.partyB asked.sideB ∧ asked.prec = .normal
      ∧ s.reserved asked.sideA + asked.unitsOn asked.sideA ≤ 2 ∧ 2 ≤ s.budget asked.sideA
      ∧ s.reserved asked.sideB + asked.unitsOn asked.sideB ≤ s.budget asked.sideB
      ∧ (s.taken [] (held (.spur 1) d)).reaches asked.sideB asked.partyB.station 6 ∧ s.room (portQueue asked.sideB) 1 = true
      ∧ s.voiceSound = true := by
  refine ⟨?_, ?_, ?_, ?_, ?_⟩
  · unfold asksFor; dsimp only; decide +kernel
  · unfold givesId; dsimp only; exact ⟨by decide +kernel, 0, by decide +kernel⟩
  · decide +kernel
  · unfold leadsTo; dsimp only; exact ⟨fun h => absurd h (by decide +kernel), fun _ => by decide +kernel⟩
  · unfold State.reaches State.leads; dsimp only [asked]; decide +kernel

/-- The East port full, with `least` the lowest precedence of the circuits over it; and a SETUP for it of 2 units and precedence ZONE. -/
def contested (least : Precedence) : State :=
  let c (id : Nat) (a : PortId) (w : Nat) (p : Precedence) (connect : Time) : Circuit :=
    ⟨id, ⟨1, 1⟩, ⟨9, 9⟩, a, .trunk .east, w, p, 3, .connected, 430000, 0, connect⟩
  let s := calling (.spur 1) (setup ⟨7, 85⟩ 0 ⟨7, 85⟩ ⟨62, 239⟩ 2 2)
    [c 20 (.trunk .west) 2 least (-300000), c 101 (.spur 0) 1 .zone (-350000), c 70 (.spur 3) 2 .zone (-200000)
      , c 52 (.trunk .west) 1 least (-100000)]
  s.setMge { s.mge with table := { s.mge.table with voice := s.mge.table.voice.set 0 6 } }

theorem witness_CallSetupIsAdmitted_short :
    (∀ least ∈ [Precedence.normal, .zone],
      let d := setup ⟨7, 85⟩ 0 ⟨7, 85⟩ ⟨62, 239⟩ 2 2
      let s := contested least
      let x := { asked with prec := .zone }
      asksFor s (.spur 1) d x .zone ∧ givesId s (.spur 1) d x.id 0 ∧ leadsTo s (.spur 1) x.partyB x.sideB
        ∧ s.hands [] 243 (held (.spur 1) d) d = true ∧ s.voiceSound = true
        ∧ s.reserved x.sideA + x.unitsOn x.sideA ≤ s.budget x.sideA ∧ s.reserved x.sideB + x.unitsOn x.sideB - s.budget x.sideB = 2)
      ∧ (after (.callSetupReceive []) (contested .normal)).csw.circuits.map (·.id) = [101, 70, 112]
      ∧ (after (.callSetupReceive []) (contested .zone)).csw.circuits.map (·.id) = [20, 101, 70, 52] := by
  refine ⟨fun least h => ⟨?_, ?_, ?_, ?_⟩, ?_⟩ <;> (try (rcases List.mem_pair.1 h with rfl | rfl))
  · unfold asksFor; dsimp only; decide +kernel
  · unfold asksFor; dsimp only; decide +kernel
  · unfold givesId; dsimp only; exact ⟨by decide +kernel, 0, by decide +kernel⟩
  · unfold givesId; dsimp only; exact ⟨by decide +kernel, 0, by decide +kernel⟩
  · unfold leadsTo; dsimp only; exact ⟨fun h => absurd h (by decide +kernel), fun _ => by decide +kernel⟩
  · unfold leadsTo; dsimp only; exact ⟨fun h => absurd h (by decide +kernel), fun _ => by decide +kernel⟩
  · decide +kernel
  · decide +kernel
  · decide +kernel

theorem witness_CallSetupIsAdmitted_emergency :
    let s := calling (.spur 1) (setup ⟨7, 85⟩ 0 ⟨7, 85⟩ ⟨1, 1⟩ 1 3) []
    s.alc.alarms.length < 32 ∧ (after (.callSetupReceive []) s).csw.circuits.map (fun x => (x.prec, x.partyA.station, x.sideA))
      = [(.emergency, 85, .spur 1)] := by decide +kernel

/-- Both sides' ports full: SP2 with a circuit to the West, the East port as in `contested`. -/
def bothShort : State :=
  let s := contested .normal
  let s := s.setCsw { s.csw with circuits := s.csw.circuits
    ++ [⟨30, ⟨1, 1⟩, ⟨9, 9⟩, .spur 1, .trunk .west, 2, .normal, 3, .connected, 430000, 0, 0⟩] }
  s.setMge { s.mge with table := { s.mge.table with voice := s.mge.table.voice.set 3 2 } }

/-- A circuit of SP2's drop 5 with a party over the East port. -/
def circuit (state : CallState) : Circuit := { asked with state }

theorem witness_CallsProgress :
    [(1, CallState.pending), (1, .alerting), (1, .connected), (2, .pending), (2, .alerting), (2, .connected), (4, .pending), (4, .connected)].all
        (fun (sub, st) =>
          let d := frameFor 243 .call sub 112 ⟨8, 243⟩ []
          let s := calling (.trunk .east) d [circuit st]
          s.hands [] 243 (held (.trunk .east) d) d && d.subtype == sub && d.dst.node != 63 && s.mge.table.enables == 0
            && s.circuit? d.tag == some (circuit st) && (circuit st).sideB == .trunk .east
            && s.room (portQueue (circuit st).sideA) 1) = true
      ∧ (let d := frameFor 243 .call 4 112 ⟨7, 85⟩ []
         let s := calling (.spur 1) d [circuit .connected]
         s.hands [] 243 (held (.spur 1) d) d = true ∧ belongs s (.spur 1) d (circuit .connected) true)
      ∧ (let d := frameFor 243 .call 1 112 ⟨8, 243⟩ []
         let s := calling (.trunk .east) d [circuit .pending]
         (s.taken [] (held (.trunk .east) d)).reaches (circuit .pending).sideA (circuit .pending).partyA.station 0) := by
  refine ⟨by decide +kernel, ⟨by decide +kernel, ?_⟩, ?_⟩
  · unfold belongs; dsimp only; exact ⟨by decide +kernel, by decide +kernel, fun _ _ => by decide +kernel⟩
  · unfold State.reaches State.leads; dsimp only [circuit, asked]; decide +kernel

theorem witness_CallsAreReleased :
    (let d := frameFor 243 .call 3 112 ⟨8, 243⟩ [0]
     let s := calling (.trunk .east) d [circuit .pending]
     s.hands [] 243 (held (.trunk .east) d) d = true ∧ s.circuit? d.tag = some (circuit .pending) ∧ s.mge.table.enables = 0)
      ∧ (let d := frameFor 243 .call 3 0 ⟨7, 85⟩ [0]
         let s := calling (.spur 1) d [circuit .pending]
         s.hands [] 243 (held (.spur 1) d) d = true ∧ d.tag = 0 ∧ s.voiceSound = true)
      ∧ (let s := clocked 10000 (calling (.spur 1) (order 13 [1]) [circuit .alerting])
         s.circuit? 112 = some (circuit .alerting) ∧ s.reached (circuit .alerting).deadline = true ∧ s.mge.owed = [])
      ∧ ordering ((lined .native).setCsw { circuits := [circuit .pending], nextId := 0 }) 13 [112] (.releaseCircuit []) = true
      ∧ ordering ringed 13 [1] (.releaseCircuit []) = true := by decide +kernel

/-- R124: each side's shortfall is covered, and circuits of both give way; one that is not covered keeps them all. -/
theorem witness_CallSetupIsAdmitted_both :
    let x := { asked with prec := .zone }
    let units (s : State) (side : PortId) : Nat :=
      ((s.csw.circuits.filter fun y => decide (0 < y.unitsOn side ∧ y.prec.ctorIdx < x.prec.ctorIdx)).map (·.unitsOn side)).sum
    let short (s : State) (side : PortId) : Nat := s.reserved side + x.unitsOn side - s.budget side
    bothShort.voiceSound = true ∧ short bothShort (.spur 1) = 2 ∧ units bothShort (.spur 1) = 2 ∧ short bothShort (.trunk .east) = 2
      ∧ units bothShort (.trunk .east) = 3 ∧ (after (.callSetupReceive []) bothShort).csw.circuits.map (·.id) = [101, 70, 112]
      ∧ units (contested .zone) (.trunk .east) < short (contested .zone) (.trunk .east) := by decide +kernel

/-- An EMERGENCY SETUP for which FBF has no block: neither it nor its RELEASE is sent, and its condition ends. -/
theorem witness_CallSetupIsAdmitted_lost :
    let d := setup ⟨7, 85⟩ 0 ⟨7, 85⟩ ⟨62, 239⟩ 2 3
    let x := calling (.spur 1) d []
    let s := x.setFbf { x.fbf with free := List.range' 1 15 }
    let t := after (.callSetupReceive []) s
    s.calm ∧ asksFor s (.spur 1) d { asked with prec := .emergency } .emergency ∧ givesId s (.spur 1) d 112 0
      ∧ (s.taken [] (held (.spur 1) d)).fbf.admits .call 1 = false ∧ (∀ q, s.room q 2 = true) ∧ ¬emergencyOf s.csw.circuits 85
      ∧ s.alarmsSound = true ∧ t.csw.circuits = [] ∧ t.mge.has .queueDiscard = true ∧ payloads t (portQueue (.spur 1)) = [] := by
  refine ⟨?_, ?_, ?_, ?_⟩
  · unfold State.calm; decide +kernel
  · unfold asksFor; dsimp only; decide +kernel
  · unfold givesId; dsimp only; exact ⟨by decide +kernel, 0, by decide +kernel⟩
  · unfold emergencyOf; dsimp only; decide +kernel

/-- An emergency circuit of SP2's drop 5, with its condition, in a small buffer. -/
def urgentCall (p : PortId) (d : Frame) (state : CallState) : State :=
  let s := oneBank 1 (calling p d [{ circuit state with prec := .emergency }])
  s.setAlc { s.alc with alarms := [⟨1, .callEmergency, 85, 9, none, 8, 8, true, false, 0, true, false, 0⟩], serial := 1, born := 1 }

/-- Its ALERT finds SP2 FAULTED; its RELEASE comes from side B; the handset gives it up; its deadline passes. -/
theorem witness_CallsAreReleased_urgent :
    let c := { circuit .pending with prec := .emergency }
    let d (subtype : Nat) : Frame := frameFor 243 .call subtype 112 ⟨8, 243⟩ [0]
    let hangUp := frameFor 243 .call 3 0 ⟨7, 85⟩ [0]
    let lost := (urgentCall (.trunk .east) (d 1) .pending)
    let lost := lost.setSpur 1 { lost.spur 1 with state := .faulted }
    let waits (s : State) (p : PortId) (cause : Nat) : Bool := (payloads s (portQueue p)).contains [byte cause]
    urgentCircuit c = true
      ∧ (lost.poolSound = true ∧ (lost.taken [] (held (.trunk .east) (d 1))).calm
        ∧ (lost.taken [] (held (.trunk .east) (d 1))).reaches (.trunk .east) 239 1
        ∧ waits (after (.callAlertReceive []) lost) (.trunk .east) 10 = true)
      ∧ (let s := urgentCall (.trunk .east) (d 3) .alerting
         (s.taken [] (held (.trunk .east) (d 3))).calm ∧ (s.taken [] (held (.trunk .east) (d 3))).fbf.admits .call 4 = true
          ∧ s.room (portQueue (.spur 1)) 4 = true ∧ waits (after (.callReleaseReceive []) s) (.spur 1) 0 = true)
      ∧ (let s := urgentCall (.spur 1) hangUp .pending
         let t := after (.callReleaseReceive []) s
         (s.taken [] (held (.spur 1) hangUp)).calm ∧ (s.csw.circuits.filter urgentCircuit).length = 1 ∧ t.csw.circuits = []
          ∧ waits t (.trunk .east) 0 = true ∧ t.alc.alarms.all (!·.active) = true)
      ∧ (let s := clocked 10000 (urgentCall (.spur 1) hangUp .pending)
         s.calm ∧ s.banksSound = true ∧ s.mge.owed = [] ∧ waits (after (.circuitDeadlineExpiry 112) s) (.trunk .east) 7 = true) := by
  unfold State.calm State.reaches State.leads; dsimp only; decide +kernel

/-! ### Chapter 8 -/

/-- A request of a truck for a segment, as it stands on LOCAL. -/
def entry (s : State) (tag segment code : Nat) : Bool :=
  let d := frameFor 242 .haul 1 tag ⟨6, 66⟩ (fieldBytes [segment, code])
  (given s d).hands [] 242 (held (.trunk .east) d) d && d.subtype == 1 && (given s d).mge.owed == [] && s.mge.table.enables == 0
    && s.segmentOf 21 == some 4

theorem witness_EntryRequestIsDecided :
    let o : Occupant := ⟨300, .inbye, 0, 120000, false⟩
    let s (g : Segment) : State := decline { g with state := .opened } [truck 300 [21] none, truck 302 [] none]
    entry (s Segment.powerOn) 999 21 0 = true ∧ entry (s Segment.powerOn) 301 20 0 = true ∧ entry (s Segment.powerOn) 301 21 2 = true
      ∧ entry (s { Segment.powerOn with occupants := [o] }) 300 21 0 = true
      ∧ (s { Segment.powerOn with occupants := [o] }).truckOverdue 300 = false
      ∧ entry (s { Segment.powerOn with occupants := [o] }) 302 21 1 = true
      ∧ entry (s { Segment.powerOn with occupants := [o], waiting := [⟨302, .inbye, 0⟩] }) 302 21 0 = true
      ∧ ((s Segment.powerOn).truck? 302).bind (·.waiting) = none ∧ (s Segment.powerOn).hlc.trucks.length < 24
      ∧ (s Segment.powerOn).entryPort 6 = some .east ∧ (s Segment.powerOn).fbf.admits .haul 1 = true := by decide +kernel

/-- Segment 21 with occupant 300, overdue or not, and its waiting list. -/
def occupied (overdue : Bool) (waiting : List WaitEntry) : State :=
  clocked 300000 (decline { Segment.powerOn with state := .opened, occupants := [⟨300, .inbye, 0, 300000, overdue⟩], waiting }
    [truck 300 [21] none, truck 302 [] (if waiting = [] then none else some 21)])

theorem witness_OccupantsLeaveSegments :
    [occupied false [], occupied true [], occupied false [⟨302, .outbye, 0⟩]].all (fun s =>
        let d := frameFor 242 .haul 2 300 ⟨6, 66⟩ (fieldBytes [21])
        (given s d).hands [] 242 (held (.trunk .east) d) d && s.segmentOf 21 == some 4
          && (s.segment 4).occupants.any (·.truck == 300) && ordering s 12 [21, 300] (.releaseOccupant [])
          && ordering s 12 [21, 301] (.releaseOccupant []) && ordering s 12 [22, 300] (.releaseOccupant [])) = true
      ∧ (occupied false []).truckOverdue 300 = false ∧ (occupied true []).truckOverdue 300 = true
      ∧ (occupied false [⟨302, .outbye, 0⟩]).barred ((occupied false []).segment 4) 302 = false
      ∧ (occupied true [⟨302, .outbye, 0⟩]).truckOverdue 300 = true
      ∧ [occupied false [], occupied true [], occupied false [⟨302, .outbye, 0⟩], occupied true [⟨302, .outbye, 0⟩]].all (fun s =>
          s.alarmsSound && s.roadsSound && (s.segment 4).waiting.all (·.truck != 300)
            && (allFin 16).all fun j => j == 4 || (s.segment j).occupants.isEmpty) = true := by decide +kernel

/-- An overdue truck clears a segment on whose list another waits: it is off the segment, the segment off its entry, the alarm ended. -/
theorem test_overdue_truck_clears :
    let s := occupied true [⟨302, .outbye, 0⟩]
    let t := after (.haulClearReceive []) (given (s.raiseAlarm .haulOverdue 300 14 none) (frameFor 242 .haul 2 300 ⟨6, 66⟩ (bytes16 21)))
    (t.segment 4).occupants.map (·.truck) = [302] ∧ (t.truck? 300).map (·.held) = some [] ∧ t.alc.holdsActive .haulOverdue 300 = false := by
  decide +kernel

theorem witness_TrucksAreHeardAndExpire :
    [300, 999].all (fun tag =>
        let d := frameFor 242 .haul 0 tag ⟨6, 66⟩ []
        (given (occupied false []) d).hands [] 242 (held (.trunk .east) d) d && d.subtype == 0) = true
      ∧ (occupied false []).hlc.trucks.any (·.id == 300) = true ∧ (occupied false []).hlc.trucks.any (·.id == 999) = false
      ∧ ((occupied false []).segment 4).occupants.any (fun o => o.truck == 300 && !o.overdue && (occupied false []).reached o.leaseEnd) = true
      ∧ ((occupied false [⟨302, .outbye, 0⟩]).segment 4).waiting.any (fun w => w.truck == 302
          && ((occupied false []).segment 4).waitLimit * 1000 ≤ ((occupied false []).time - w.time).toNat) = true
      ∧ (occupied false []).mge.owed = [] := by decide +kernel

theorem witness_SegmentsOpenAndCloseByCommand :
    let shut := (occupied false []).setZone 13 { Zone.powerOn with evaluated := true, localState := .trip, combined := .trip }
    let closed := decline { Segment.powerOn with waiting := [] } []
    [occupied false [], shut, closed].all (fun s => ordering s 10 [21] (.openSegment []) && ordering s 11 [21] (.closeSegment [])
        && ordering s 10 [22] (.openSegment []) && ordering s 11 [22] (.closeSegment [])) = true
      ∧ shut.combined 14 = .trip ∧ (closed.segment 4).state ≠ .opened ∧ closed.combined 14 ≠ .trip ∧ closed.lockedDown 14 = false
      ∧ (occupied false [⟨302, .outbye, 0⟩]).segmentOf 21 = some 4 := by decide +kernel

/-- Segment 21 with an overdue occupant, whose request renews its lease and ends the condition; one by whom it is overdue elsewhere too. -/
theorem witness_EntryRequestIsDecided_overdue :
    let s := occupied true []
    let o : Occupant := ⟨300, .inbye, 0, 300000, true⟩
    let two := (s.setSegment 5 { s.segment 4 with id := 22, occupants := [o] }).setTrucks [truck 300 [21, 22] none]
    entry s 300 21 0 = true ∧ s.calm ∧ lastOverdue s 4 300 ∧ ¬lastOverdue two 4 300 ∧ entry two 300 21 0 = true ∧ s.alarmsSound = true
      ∧ (s.segment 4).occupants.any (·.truck == 300) = true ∧ (s.segment 4).state ≠ .gasClosed
      ∧ (s.rosterOf 300).any (·.enabled) = true
      ∧ ((after (.entryRequestReceive []) (given s (frameFor 242 .haul 1 300 ⟨6, 66⟩ (fieldBytes [21, 0])))).segment 4).occupants
        = [⟨300, .inbye, 0, 420000, false⟩] := by
  unfold State.calm lastOverdue; dsimp only; decide +kernel

/-- Truck 302 waits at the head of segment 22, and asks for segment 21: granted there, or behind an occupant of the other direction, it
gives up its place, and truck 301 enters 22. -/
def waitingElsewhere (occupants : List Occupant) : State :=
  let s := decline { Segment.powerOn with state := .opened, occupants }
    ([truck 301 [] (some 22), truck 302 [] (some 22)] ++ occupants.map fun o => truck o.truck [21] none)
  s.setSegment 5 { s.segment 4 with id := 22, occupants := [], waiting := [⟨302, .inbye, 0⟩, ⟨301, .outbye, 0⟩] }

theorem witness_EntryRequestIsDecided_elsewhere :
    [[], [⟨300, .inbye, 0, 120000, false⟩]].all (fun os =>
        let s := waitingElsewhere os
        let t := after (.entryRequestReceive []) (given s (frameFor 242 .haul 1 302 ⟨6, 66⟩ (fieldBytes [21, 1])))
        entry s 302 21 1 && s.segmentOf 22 == some 5 && ((s.truck? 302).bind (·.waiting)) == some 22
          && s.barred { s.segment 5 with waiting := [] } 301 == false
          && decide (((s.segment 5).waiting.map (·.truck)).Nodup) && (t.segment 5).occupants.map (·.truck) == [301]
          && (t.segment 5).waiting.isEmpty && (t.segment 4).occupants.length == 1
          && (t.segment 4).waiting.length == os.length) = true := by decide +kernel

/-- R145: a head of the other direction blocks the list behind it. -/
theorem test_head_blocks_list :
    let s := decline { Segment.powerOn with state := .opened, occupants := [⟨300, .inbye, 0, 120000, false⟩] } [truck 300 [21] none]
    let g := { s.segment 4 with waiting := [⟨301, .outbye, 0⟩, ⟨302, .inbye, 0⟩] }
    promoted s g = g ∧ (promoted s { g with waiting := [⟨302, .inbye, 0⟩, ⟨301, .outbye, 0⟩] }).waiting = [⟨301, .outbye, 0⟩] := by
  decide +kernel

/-- A CLEAR of a truck that is no occupant refreshes its entry and does no more; one of an overdue occupant, in a calm state. -/
theorem witness_OccupantsLeaveSegments_clear :
    let d (tag : Nat) : Frame := frameFor 242 .haul 2 tag ⟨5, 55⟩ (fieldBytes [21])
    let s := occupied true [⟨302, .outbye, 0⟩]
    (given s (d 302)).hands [] 242 (held (.trunk .east) (d 302)) (d 302) = true ∧ (s.segment 4).occupants.any (·.truck == 302) = false
      ∧ ((after (.haulClearReceive []) (given s (d 302))).truck? 302).map (fun y => (y.via, y.heard)) = some (⟨5, 55⟩, 300000)
      ∧ s.calm ∧ lastOverdue s 4 300 ∧ waitsOnce (s.segment 4) := by
  unfold State.calm lastOverdue waitsOnce; dsimp only; decide +kernel

/-- A BEACON of an overdue truck, which has another place to wait for. -/
theorem witness_TrucksAreHeardAndExpire_overdue :
    let d := frameFor 242 .haul 0 300 ⟨5, 55⟩ []
    let s := occupied true [⟨302, .outbye, 0⟩]
    let t := after (.beaconReceive []) (given s d)
    (given s d).hands [] 242 (held (.trunk .east) d) d = true ∧ s.truckOverdue 300 = true ∧ s.calm ∧ s.alarmsSound = true
      ∧ (t.segment 4).occupants = [⟨300, .inbye, 0, 420000, false⟩] ∧ (t.truck? 300).map (·.via) = some ⟨5, 55⟩ := by
  unfold State.calm; dsimp only; decide +kernel

/-! ### Chapter 9 -/

/-- An alarm entry of a posted condition. -/
def posted (serial : Nat) (due acked : Bool) : Alarm :=
  ⟨serial, .posted, 500 + serial, 0, none, 0, 7, true, acked, 0, !acked, due, serial⟩

/-- The node with an alarm list. -/
def listed (alarms : List Alarm) : State :=
  clocked 60000 (ringed.setAlc { ringed.alc with alarms, serial := 40, born := 40, gapDue := some 60000 })

/-- The node with its control stations set, and SP2 ACTIVE. -/
def stationed (a b : Addr) (s : State) : State :=
  { s.setMge { s.mge with table := { s.mge.table with station1 := a, station2 := b } } with
    spurs := (lined .native).spurs, cls := (lined .native).cls }

theorem witness_PacerAnnouncesInOrder :
    let s := listed [posted 1 false false, posted 2 true false, posted 3 true false]
    (s.alc.alarms.map (·.serial)).Nodup ∧ s.expired s.alc.gapDue = true ∧ pacerAble s
      ∧ s.alc.alarms = [posted 1 false false] ++ posted 2 true false :: [posted 3 true false]
      ∧ s.entryPort s.mge.table.station1.node = some .east ∧ s.room (trunkQueue .east) 2 = true
      ∧ s.reached s.alc.fastDue = true ∧ s.reached s.alc.slowDue = true ∧ s.alc.gapDue ≠ none
      ∧ (∀ e ∈ (listed [posted 1 false false]).alc.alarms, e.due = false) ∧ ¬pacerAble (stationed ⟨0, 0⟩ ⟨0, 0⟩ s) := by
  unfold pacerAble; dsimp only; decide +kernel

/-- Two control stations, one of them here: station 240, a drop, a drop that is not present, and one with no way to it. -/
theorem witness_PacerAnnouncesInOrder_stations :
    let s (a b : Addr) := stationed a b (listed [posted 2 true false])
    let run (x : State) : State := after .gapTimerExpiry x
    let due (x : State) : List Bool := (run x).alc.alarms.map (·.due)
    let cut (x : State) : State := { x with tpe := TrunkPort.powerOn, tpw := TrunkPort.powerOn }
    let absent (x : State) : State := x.setSpur 1 ((x.spur 1).setDrop 5 { (x.spur 1).drops[(5 : Fin 16)] with present := false })
    (pacerAble (s ⟨1, 10⟩ ⟨7, 240⟩) ∧ (s ⟨1, 10⟩ ⟨7, 240⟩).room localQueue 2 = true ∧ due (s ⟨1, 10⟩ ⟨7, 240⟩) = [false]
        ∧ ((run (s ⟨1, 10⟩ ⟨7, 240⟩)).queue localQueue).frames.length = 1)
      ∧ ((s ⟨7, 85⟩ ⟨0, 0⟩).dropOfStation? 85 = some (1, 5) ∧ unreachable (s ⟨7, 85⟩ ⟨0, 0⟩) ⟨7, 85⟩ = false
        ∧ (s ⟨7, 85⟩ ⟨0, 0⟩).room (spurQueue 1) 2 = true ∧ due (s ⟨7, 85⟩ ⟨0, 0⟩) = [false])
      ∧ (unreachable (absent (s ⟨7, 85⟩ ⟨1, 10⟩)) ⟨7, 85⟩ = true ∧ due (absent (s ⟨7, 85⟩ ⟨1, 10⟩)) = [true])
      ∧ (unreachable (cut (s ⟨1, 10⟩ ⟨0, 0⟩)) ⟨1, 10⟩ = true ∧ due (cut (s ⟨1, 10⟩ ⟨0, 0⟩)) = [true])
      ∧ (let x := (s ⟨1, 10⟩ ⟨0, 0⟩).setFbf { (s ⟨1, 10⟩ ⟨0, 0⟩).fbf with free := [] }
         due x = [true] ∧ (run x).alc.gapDue = some (x.after 50)) := by
  unfold pacerAble; dsimp only; decide +kernel

/-- R166's IDLE row: the fast repeat makes an entry DUE, which an IDLE pacer announces at once; one in its gap lets it wait. -/
theorem witness_PacerAnnouncesInOrder_idle :
    let x := listed [{ posted 2 false false with severity := 12 }]
    let s := x.setAlc { x.alc with gapDue := none }
    pacerAble s ∧ s.reached s.alc.fastDue = true ∧ (after .fastRepeatExpiry s).alc.gapDue = some (s.after 50)
      ∧ (after .fastRepeatExpiry s).alc.alarms.map (·.due) = [false] ∧ (payloads (after .fastRepeatExpiry s) 0).length = 1
      ∧ (after .fastRepeatExpiry x).alc.alarms.map (·.due) = [true] := by
  unfold pacerAble; dsimp only; decide +kernel

/-- A full alarm list of entries of severity 7, of which one is acknowledged or not. -/
def fullList (acked : Bool) : State :=
  listed ((List.range 31).map (fun i => posted (i + 1) false false) ++ [posted 32 false acked])

theorem witness_AlarmsAreListedClearedAndAcknowledged :
    let s := listed [posted 1 false false, posted 2 true true, { posted 3 true false with active := false }
      , { posted 4 true false with kind := .spurFault, severity := 2 }]
    [s, fullList false, fullList true].all (fun x => x.alarmsSound && decide (x.alc.alarms.length ≤ 32)
        && [0, 1, 2, 3, 4, 5].all (fun n => ordering x 7 [n] (.ackAlarm []) && ordering x 9 [n] (.clearPosted []))
        && [[0, 501, 15], [8, 9, 0], [1, 9, 16]].all fun a => ordering x 8 a (.postAlarm [])) = true
      ∧ (8 : Fin 16).val = AlarmKind.callEmergency.ctorIdx + 1 ∧ (15 : Fin 16).val = AlarmKind.posted.ctorIdx + 1
      ∧ (s.alc.alarms.find? fun e => e.kind == .posted && e.source == 501) = some (posted 1 false false)
      ∧ (s.alc.alarms.find? (·.serial == 3)).map (·.active) = some false ∧ s.alc.alarms.find? (·.serial == 5) = none
      ∧ postedDrop 277 = some ⟨1, 5⟩ ∧ postedDrop 9 = none ∧ pacerAble s ∧ s.alc.gapDue ≠ none := by
  unfold pacerAble; dsimp only; decide +kernel

/-- Where no entry drives an output, nothing but the pacer's announcement goes out. -/
theorem witness_AlarmsAreListedClearedAndAcknowledged_announced :
    let x := listed [posted 1 false false]
    let s := x.setAlc { x.alc with island := false, gapDue := none }
    s.outputsSound = true ∧ s.alc.island = false ∧ pacerAble s
      ∧ (∀ e ∈ s.alc.alarms ++ [posted 2 true false], s.alc.actions[e.action].mode = .announce) := by
  unfold pacerAble; dsimp only; decide +kernel

/-- R160's three cases: the acknowledged entry makes room, and no ALARM_OVERFLOW; with none acknowledged the last of the lowest does, with
it; an alarm of severity 7 is not listed. R159: a raise of a cleared and of an acknowledged entry. R161: a clear removes an acknowledged
entry and keeps another, DUE. -/
theorem test_alarm_list :
    let raise (s : State) : State := s.raiseAlarm .bankFault 3 0 none
    let post (s : State) : State := after (.postAlarm []) (given s (order 8 [7, 9, 0]))
    let serials (s : State) : List Nat := s.alc.alarms.map (·.serial)
    (serials (raise (fullList true)) = 41 :: List.range' 1 31 ∧ (raise (fullList true)).mge.has .alarmOverflow = false)
      ∧ (serials (raise (fullList false)) = 41 :: List.range' 1 31 ∧ (raise (fullList false)).mge.has .alarmOverflow = true)
      ∧ (serials (post (fullList false)) = List.range' 1 32 ∧ (post (fullList false)).mge.has .alarmOverflow = true
        ∧ payloads (post (fullList false)) 0 = [[0, 0, 0, 0, 0, 0]])
      ∧ (let e := posted 1 false true
         let again (x : Alarm) : List Alarm := ((listed [x]).raiseAlarm .posted 501 0 none).alc.alarms
         (again { e with active := false }).map (fun y => (y.active, y.acked, y.raised, y.due)) = [(true, false, 60000, true)]
          ∧ (again e).map (fun y => (y.acked, y.again, y.raised, y.due)) = [(false, true, 0, true)])
      ∧ ((listed [posted 1 false true]).clearAlarm .posted 501).alc.alarms = []
      ∧ ((listed [posted 1 false false]).clearAlarm .posted 501).alc.alarms = [{ posted 1 false false with active := false, due := true }] := by
  decide +kernel

/-! ### Chapters 10 and 11 -/

theorem witness_RequestsNeedAuthorityAndAreAnswered :
    [⟨0, 0⟩, ⟨1, 11⟩, ⟨2, 10⟩].all (fun src =>
        let d := { request [0, 1, 0, 1] with src }
        (given ringed d).hands [] 0 (held (.trunk .east) d) d && d.cls == .mgmt && d.subtype == 0
          && src != ringed.mge.table.station1) = true
      ∧ ringed.mge.table.station1 ≠ ⟨0, 0⟩ ∧ ringed.entryPort 1 = some .east ∧ ringed.room (trunkQueue .east) 1 = true
      ∧ ringed.fbf.admits .mgmt 1 = true ∧ node7.up .east = false ∧ node7.up .west = false
      ∧ (ringed.setFbf { ringed.fbf with free := [] }).fbf.admits .mgmt 1 = false
      ∧ (lined .native).station? 1 5 = some 85 ∧ (lined .native).room (spurQueue 1) 1 = true := by decide +kernel

/-- R174: the REPLY to a control station elsewhere, and to one at a drop of this node. -/
theorem test_reply :
    let d := { request [] with tag := 300, level := 5 }
    let sent (s : State) (q : Fin 9) : List (Frame × Nat) := (s.queue q).frames.filterMap fun f => f.body.frame?.map (·, f.level)
    let frame (dst : Addr) : Frame := { cls := .mgmt, level := 5, hop := 127, wrapped := false, dst, src := ⟨7, 0⟩, zone := 0, subtype := 1
                                        tag := 300, payload := [4, 3, 1, 2] }
    sent (ringed.reply d ⟨.badValue, 3⟩ [258] false) 0 = [(frame ⟨1, 10⟩, 5)]
      ∧ sent ((lined .native).reply { d with src := ⟨7, 85⟩ } ⟨.badValue, 3⟩ [258] false) (spurQueue 1) = [(frame ⟨7, 85⟩, 5)] := by
  decide +kernel

theorem witness_ReadAnswersWithEntries :
    [[0, 1, 0], [0, 14, 0, 1], [0, 1, 0, 0], [0, 8, 0, 1], [0, 8, 31, 2], [0, 4, 0, 6], [0, 4, 0, 5], [0, 3, 0, 64], [0, 39, 32, 1]].all
        (fun p => asking ringed (request (p.map byte)) (.read [])) = true
      ∧ [[0, 32, 0, 1], [0, 32, 1, 1], [0, 32, 0, 2]].all (fun p =>
          asking ringed (request (p.map byte)) (.readTrunks []) && 4 ≤ (request (p.map byte)).payload.length
            && byteAt (request (p.map byte)).payload 3 ≤ 2) = true
      ∧ [[0, 32, 0], [0, 32, 0, 0], [0, 32, 2, 1], [0, 32, 1, 2], [0, 32, 0, 3]].all (fun p =>
          asking ringed (request (p.map byte)) (.readTrunks [])) = true := by decide +kernel

/-- A WRITE of the control station. -/
def write (table index : Nat) (fs : List Nat) : Frame := request ([1, byte table, byte index] ++ fieldBytes fs)

/-- An entry of each configuration table that its rule accepts, at an end of its range. -/
def accepted : List (Nat × Nat × List Nat) :=
  [(1, 0, [0, 62, 0, 266, 40, 1, 0, 0] ++ List.replicate 9 4 ++ [24, 1, 8, 8, 8, 8, 8, 1]), (2, 5, [224, 239]), (3, 63, [1])
    , (5, 7, [1, 63, 15, 0, 1, 0, 255, 1, 6, 0, 15, 16383, 63, 2, 0, 1, 0, 2, 8, 0]), (5, 8, List.replicate 8 15)
    , (5, 9, List.replicate 12 1), (6, 7, [64, 1, 62, 0, 60, 7, 2] ++ List.replicate 41 0)
    , (7, 47, [1, 300, 4, 31, 1, 16383, 1, 1, 4, 2, 1, 4095, 60, 1, 255, 1, 1, 1] ++ List.replicate 15 0)
    , (8, 31, [1, 1, 2] ++ List.replicate 39 0), (9, 3, [1, 15, 0, 2, 0, 0, 0]), (10, 15, [255, 31, 4, 0, 65535, 1])
    , (11, 63, [4095, 1, 1]), (12, 15, [3, 0, 15, 2]), (13, 5, [0, 3] ++ List.replicate 16 31)]

theorem witness_WritesReplaceTheirEntry :
    accepted.all (fun (table, index, fs) =>
        asking ringed (write table index fs) (writeRow table []) && fs.length == entryFields table index
          && fieldsOf ((write table index fs).payload.drop 3) == fs
          && (tableRange table).any (fun r => r.1 ≤ index && index ≤ r.2)
          && (ringed.write false table index fs).isOk) = true ∧ ringed.cls.live = .a := by decide +kernel

set_option synthInstance.maxSize 512 in
/-- The rules of the tables can be evaluated, field by field. -/
def fieldFitsDec (s : State) (table index : Nat) (fs : List Nat) (n : Nat) : Decidable (fieldFits s table index fs n) := by
  unfold fieldFits
  split <;> infer_instance

/-- No rule speaks of a field from the 60th on. -/
theorem fieldFits_beyond (s : State) (table index : Nat) (fs : List Nat) (n : Nat) (h : 60 ≤ n) : fieldFits s table index fs n := by
  unfold fieldFits
  simp only [List.mem_cons, List.not_mem_nil, or_false]
  split <;> repeat' (first | omega | refine ⟨?_, ?_⟩ | intro _ | split)

/-- The first field of an entry that its rule does not accept. -/
def badField (s : State) (table index : Nat) (fs : List Nat) : Option Nat :=
  (List.range 60).find? fun n => !(fieldFitsDec s table index fs n).decide

theorem fieldFits_of_badField (s : State) (table index : Nat) (fs : List Nat) (h : badField s table index fs = none) (n : Nat) :
    fieldFits s table index fs n := by
  by_cases hn : n < 60
  · have := List.find?_eq_none.1 h n (List.mem_range.2 hn)
    exact @of_decide_eq_true _ (fieldFitsDec ..) (by simpa using this)
  · exact fieldFits_beyond s table index fs n (by omega)

/-- The same entries as `fits` has them. -/
theorem witness_fits : ∀ e ∈ accepted, fits ringed e.1 e.2.1 e.2.2 := by
  have h : accepted.all (fun e => badField ringed e.1 e.2.1 e.2.2 == none && heldBusy ringed e.1 e.2.1 e.2.2 == none) = true := by
    decide +kernel
  intro e he
  have := List.all_eq_true.1 h e he
  simp only [Bool.and_eq_true, beq_iff_eq] at this
  exact ⟨fieldFits_of_badField _ _ _ _ this.1, this.2⟩

/-- Entries with one bad field: in each, it is the first. -/
def bad : List (Nat × Nat × List Nat × Nat) :=
  let drop (table index n v : Nat) : Nat × Nat × List Nat × Nat :=
    (table, index, ((accepted.find? fun e => e.1 == table && e.2.1 == index).map (·.2.2)).getD [] |>.set (n - 1) v, n)
  [drop 1 0 2 63, drop 1 0 3 255, drop 1 0 18 25, drop 2 5 2 240, drop 3 63 1 2, drop 5 7 10 1, drop 5 9 4 (64 * 256), drop 6 7 3 61
    , drop 7 47 5 2, drop 7 47 11 2, drop 8 31 3 3, drop 9 3 2 16, drop 10 15 3 5, drop 11 63 1 4096, drop 12 15 4 3, drop 13 5 18 32]

/-- Fields that the rule does not accept; and fields that it accepts and that an enabled channel, an occupied segment and one that is
waited for do not let stand. -/
theorem witness_WritesReplaceTheirEntry_refused :
    bad.all (fun (table, index, fs, n) =>
        asking ringed (write table index fs) (writeRow table []) && fs.length == entryFields table index
          && badField ringed table index fs == some n) = true
      ∧ (let s := ringed.setChannel 17 methane
         let fs := (s.readEntry 7 17).set 3 13
         asking s (write 7 17 fs) (.writeChannels []) = true ∧ fs.length = entryFields 7 17 ∧ badField s 7 17 fs = none
          ∧ heldBusy s 7 17 fs = some 4 ∧ heldBusy s 7 17 (fs.set 1 1) = some 2)
      ∧ (let s := occupied false [⟨302, .outbye, 0⟩]
         let fs := (s.entry 10 4).set 2 4
         asking s (write 10 4 fs) (.writeSegments []) = true ∧ fs.length = entryFields 10 4 ∧ badField s 10 4 fs = none
          ∧ heldBusy s 10 4 fs = some 0) := by decide +kernel

theorem witness_WriteChecksComeInOrder :
    [[1, 1], [1, 1, 0, 0], [1, 14, 0], [1, 32, 0], [1, 4, 10, 0, 0], [1, 1, 1], [1, 8, 0], [1, 4, 0], [1, 1, 0], [1, 0, 0]].all
        (fun p => asking ringed (request (p.map byte)) (writeRow ((p.getD 1 0)) [])) = true := by decide +kernel

/-- R180, a raise taken before the clear: the request's block is the last that RETIRING bank 0 holds, so that its taking raises
BANK_CHANGE; the NOTICE goes out with bit 14 set, and then the reply shows it clear. -/
theorem test_clear_events_after_own_raise :
    let s := given ringed (order 18 [0xFFFF])
    let s := (s.setBank 0 { s.bank 0 with state := .retiring }).setFbf { (s.setBank 0 { s.bank 0 with state := .retiring }).fbf with
      free := [64, 65] }
    let t := after (.clearEvents []) (s.setMge { s.mge with table := { s.mge.table with enables := 0x4000 } })
    (payloads t (trunkQueue .east)).map (·.take 4) ++ (payloads t (trunkQueue .west)).map (·.take 4)
        = [[0x40, 0, 0, 0], [0, 0, 0, 0]] ∧ t.mge.events = 0 := by decide +kernel

/-- R184: a RESTART asked from this node's own station 0 has its reply taken at LOCAL, and then goes on. -/
theorem test_restart_reply_is_taken_here :
    let s := ringed.setMge { ringed.mge with table := { ringed.mge.table with station1 := ⟨7, 0⟩ } }
    let t := after (.restart []) (given s { order 20 [] with src := ⟨7, 0⟩ })
    t.mge.restarting = true ∧ t.restartReady = false ∧ (after (.mgmtFrameDiscard []) t).restartReady = true := by decide +kernel

theorem witness_EventsClearAndSavesEnd :
    let saving := ringed.setCfl { ringed.cfl with saving := some [1, 2, 255] }
    ordering ringed 18 [65535] (.clearEvents []) = true ∧ ordering ringed 19 [] (.save []) = true
      ∧ ordering saving 19 [] (.save []) = true ∧ saving.cfl.saving = some [1, 2, 255] := by decide +kernel

theorem witness_RestartFlushesTheNode :
    asking ringed (order 20 []) (.restart []) = true
      ∧ (ringed.setMge { ringed.mge with restarting := true }).restartReady = true
      ∧ (busy.setMge { busy.mge with restarting := true }).restartReady = true ∧ busy.alc.gapDue = none ∧ ringed.alc.island = false := by
  decide +kernel

/-- The zones after a RESTART: one leaves TRIP for ALERT, its channel starting, and its segment reopens; one goes into TRIP by a channel
that is latched; a permit relay is set by them. -/
theorem witness_RestartFlushesTheNode_zones :
    let s := faulted .normal false true
    let s := s.setZone 13 { s.zone 13 with policy := .admitAll }
    let s := s.setChannel 18 { methane with latched := true, cfg := { methane.cfg with zone := 9 } }
    let s := (s.setMge { s.mge with restarting := true }).setRelay 1 { Relay.powerOn with func := .zonePermit, mask := 0x4000 }
    let t := after .restartFlush s
    s.restartReady = true ∧ stands s = true ∧ (t.zone 13).localState = .alert ∧ (t.segment 4).state ≠ .gasClosed
      ∧ t.alc.holdsActive .gasTrip 14 = false ∧ (t.zone 8).combined = .trip ∧ t.alc.holdsActive .gasTrip 9 = true
      ∧ (t.relay 1).energised = true ∧ (s.relay 1).energised = false ∧ (t.relay 1).severity ≤ 15 := by decide +kernel

/-- A node in which a RESTART has nothing to send, its reply gone. -/
def resting : State :=
  { ringed with
    zones := vmap (fun z : Zone => { z with evaluated := true }) ringed.zones
    alc := { ringed.alc with gapDue := some 50 }
    mge := { ringed.mge with restarting := true } }

theorem witness_RestartFlushesTheNode_atRest : resting.atRest ∧ resting.restartReady = true := by
  refine ⟨?_, by decide +kernel⟩
  unfold State.atRest State.airAtRest
  dsimp only
  decide +kernel

/-- Node 7 with its zones at rest, SP2 ACTIVE, and a call between its drop 5 and the East; its pacer waits. -/
def speaking (prec : Precedence) (alarms : List Alarm) : State :=
  let s := (lined .native).setCsw { circuits := [{ circuit .connected with prec }], nextId := 0 }
  { s with
    zones := vmap (fun z : Zone => { z with evaluated := true }) s.zones
    alc := { s.alc with gapDue := some 50, alarms, serial := 40, born := 40 }
    mge := { s.mge with restarting := true } }

/-- The circuit is released toward both sides, an emergency ends with its condition, and a posted alarm stays. -/
theorem witness_RestartFlushesTheNode_calls :
    let s := speaking .normal []
    let t := after .restartFlush s
    s.airAtRest ∧ s.calm ∧ s.restartReady = true ∧ s.leads (.spur 1) 85 ∧ s.leads (.trunk .east) 239
      ∧ 4 ≤ s.mge.table.queueLimits[portQueue (.spur 1)] ∧ 4 ≤ s.mge.table.queueLimits[portQueue (.trunk .east)]
      ∧ t.fbf.reserve + 4 ≤ ((List.range 256).filter fun b => (s.bank (bankOf b)).state == .inService).length
      ∧ payloads t (spurQueue 1) = [[11]] ∧ payloads t 0 = [[11]] := by
  unfold State.airAtRest State.calm State.leads; dsimp only; decide +kernel

theorem witness_RestartFlushesTheNode_conditions :
    let s := (speaking .emergency [⟨2, .callEmergency, 85, 9, none, 8, 8, true, false, 0, true, false, 2⟩, posted 1 false false
      , ⟨3, .channelFault, 17, 12, none, 3, 3, true, false, 0, true, false, 3⟩]).setChannel 17 { methane with
        state := .fault, computed := .fault, causes := ⟨false, false, false, true⟩ }
    let t := after .restartFlush s
    s.alarmsSound = true ∧ s.restartReady = true ∧ s.csw.circuits.all urgentCircuit = true ∧ (s.channel 17).causes.fail = true
      ∧ t.alc.holdsActive .callEmergency 85 = false ∧ t.alc.holdsActive .channelFault 17 = false
      ∧ t.alc.alarms.any (fun e => e.serial == 1 && e.active) = true := by decide +kernel

/-- With no new alarm in the step, the serial counter stands. -/
theorem witness_RestartFlushesTheNode_kept :
    let s := speaking .normal [posted 1 false false]
    (after .restartFlush s).alc.serial = s.alc.serial ∧ s.alarmsSound = true := by decide +kernel

theorem witness_FramesWithNoMeaningAreDiscarded :
    (let d := { request [] with subtype := 1 }
     [ringed, ringed.setMge { ringed.mge with restarting := true }].all (fun s => (given s d).hands [] 0 (held (.trunk .east) d) d) = true
      ∧ d.subtype ≠ 0)
      ∧ (let d := frameFor 240 .alarm 0 1 ⟨3, 240⟩ []
         (given ringed d).hands [] 240 (held (.trunk .east) d) d = true) ∧ ringed.mge.owed = [] ∧ ringed.mge.table.enables = 0
      ∧ [[], [3], [2, 0], [2, 21], [255]].all (fun p => asking ringed (request (p.map byte)) (.badOperationRequest [])) = true
      ∧ argumentsOf.all (fun (code, n) => (List.range n).all fun k =>
          asking ringed (order code (List.replicate k 1)) (commandRow code []) && (commandArgs (order code (List.replicate k 1)).payload).length == k)
        = true := by
  decide +kernel

theorem witness_LoadAppliesRecordsInOrder :
    State.reset.cfl.load = .loading ∧ State.reset.cfl.memory = some [0xFF] ∧ State.reset.cfl.position = 0
      ∧ (State.reset.write true 3 63 [1]).isOk = true ∧ entryFields 3 63 = 1 ∧ tableRange 3 = some (0, 63) := by decide +kernel

theorem witness_FramesWithNoMeaningAreDiscarded_haulAndCall :
    [3, 7].all (fun k => let d := frameFor 242 .haul k 300 ⟨6, 66⟩ []
      (given ringed d).hands [] 242 (held (.trunk .east) d) d) = true
      ∧ [frameFor 243 .call 5 112 ⟨8, 243⟩ [], { frameFor 243 .call 1 112 ⟨8, 243⟩ [] with dst := ⟨63, 243⟩ }].all (fun d =>
        (given ringed d).hands [] 243 (held (.trunk .east) d) d) = true := by decide +kernel

/-- A record that the tables accept, at the start of the memory: it is stored, and the load goes on behind it. -/
theorem witness_LoadAppliesRecordsInOrder_accepted :
    let s := State.reset.setCfl { State.reset.cfl with memory := some [3, 63, 1, 0, 1, 255] }
    let t := after (.configRecordApply none) s
    s.cfl.load = .loading ∧ fits s 3 63 [1] ∧ ¬fits s 3 63 [2] ∧ t.cls.direction[(63 : Fin 64)] = .west
      ∧ (t.cfl.position, t.cfl.applied, t.cfl.load) = (5, 1, .loading) := by
  refine ⟨by decide +kernel, ⟨fieldFits_of_badField _ _ _ _ (by decide +kernel), by decide +kernel⟩, fun h => ?_, by decide +kernel⟩
  exact absurd (h.1 1 rfl) (by decide)

/-- The end of the load, at its end marker and at a record that stops it, evaluates the zones not evaluated before: zone 9 is forced and
its call escalates, zone 14 is monitored; zone 3 has been evaluated, and stays. -/
theorem witness_LoadAppliesRecordsInOrder_ended :
    [([255], LoadState.complete), ([14, 0, 0], .stopped), ([], .stopped)].all (fun (m, load) =>
      let s := (ringed.setZone 8 { Zone.powerOn with force := true }).setZone 13 { Zone.powerOn with monitored := true }
      let s := (s.setZone 2 { Zone.powerOn with evaluated := true, monitored := true }).setCsw { circuits := [circuit .connected], nextId := 0 }
      let s := s.setCfl { s.cfl with load := .loading, memory := some (m.map byte) }
      let t := after (.configRecordApply none) s
      stands s && t.cfl.load == load && (t.zone 8).combined == .trip && t.alc.holdsActive .gasTrip 9 && (t.zone 13).combined == .alert
        && t.zone 2 == s.zone 2 && t.csw.circuits.map (·.prec) == [.zone]) = true := by decide +kernel

theorem witness_FramesReadBackAsSent :
    ({ passing ⟨255, 255⟩ 127 true with level := 15, zone := 31, subtype := 7, tag := 65535 } : Frame).wf = true := by decide

/-! ### The further clauses: what follows a change -/

/-- Node 7 with no control station, and frames of four origins on the East queue: a unicast in transit, one turned back already, one from a
spur, and the announcement of an entry. -/
def breaking (west : TrunkPort) : State :=
  let d := passing ⟨1, 9⟩ 2 false
  let f (d : Frame) (o : Origin) (k : Nat) : Stored := { held (.trunk .west) d with origin := o, blocks := [k] }
  let s := (oneBank 4 { ringed with tpw := west }).setQueue 0 { Queue.powerOn with
    frames := [f d (.transit .west) 0, f { d with wrapped := true } (.transit .west) 1, f d .spur 2, f d (.announce 1) 3] }
  let s := { s with mge := { s.mge with table := { s.mge.table with station1 := ⟨0, 0⟩ } }, fbf := { s.fbf with held := [0, 1, 2, 3] } }
  (s.setAlc { s.alc with alarms := [⟨1, .posted, 3, 0, none, 14, 0, true, false, 0, true, false, 0⟩], serial := 1, born := 1, island := false
                         gapDue := some 50 }).driveOutputs.driveRelays fun _ => true

theorem witness_LeavingAndEnteringUp_decidedAgain :
    [upPort 6, TrunkPort.powerOn].all (fun west =>
        let s := breaking west
        let fs := (s.queue (trunkQueue .east)).frames
        runs (.trunkSignalLoss .east) s && s.up .east && !(after (.trunkSignalLoss .east) s).up .east && s.voiceSound && s.outputsSound
          && s.poolSound && s.csw.circuits.isEmpty && s.alc.alarms.length < 32 && s.alc.gapDue == some 50
          && s.room (trunkQueue .west) (occupancy (fs.filterMap (movedBy (s.up .west)))) && fs.any (lostWithEvent (s.up .west)))
      = true
      ∧ ((breaking (upPort 6)).queue 0).frames.map (fun f => (movedBy true f).isSome) = [true, false, true, true]
      ∧ ((after (.trunkSignalLoss .east) (breaking (upPort 6))).queue 1).frames.length = 3 := by decide +kernel

/-- The line of SP2 ACTIVE with 10 granted half-watts of 12, and class-1 and class-3 ports that wait for power. -/
def waitingPower : State :=
  let s := lined .native
  let p (k : Nat) : SpurPort := { SpurPort.powerOn with state := .powerDenied, descriptor := some ⟨k, 0, Vector.replicate 16 .native⟩ }
  let s := ((s.setSpur 1 { s.spur 1 with granted := 3 }).setSpur 2 (p 3)).setSpur 4 (p 2)
  s.setMge { s.mge with table := { s.mge.table with budget := 12 } }

theorem witness_powerReturns :
    waitingPower.powerSound = true ∧ (waitingPower.spur 1).state = .active ∧ runs (.spurPresenceFall 1) waitingPower = true
      ∧ grantedAgain waitingPower 12 0 [0, 2, 3, 4, 5] = [2]
      ∧ ((after (.spurPresenceFall 1) waitingPower).spur 2) = poweredAgain waitingPower 2
      ∧ ((after (.spurPresenceFall 1) waitingPower).spur 4).state = .powerDenied := by decide +kernel

/-- A drop whose output an alarm drives, in flight at its last retry: a mismatched confirmation gives it up. -/
def givingUp : State :=
  let s := output .inFlight 2 false
  (s.setAlc { s.alc with
    alarms := [⟨1, .refugePanic, 1, 9, some ⟨1, 5⟩, 3, 8, true, false, 0, true, false, 0⟩], serial := 1, born := 1
    actions := s.alc.actions.set 3 ⟨.announceTrip, 8, 3, .sourceDrop⟩ }).driveOutputs.driveRelays fun _ => true

theorem witness_ConfirmationSettlesDrop_givesUp :
    givingUp.outputsSound = true ∧ (givingUp.spur 1).reconciled 5 = true ∧ (givingUp.spur 1).sentSlot 5 = some 0
      ∧ (givingUp.spur 1).drops[(5 : Fin 16)].out = .inFlight ∧ (2 : BitVec 4) ≠ (givingUp.spur 1).drops[(5 : Fin 16)].sent
      ∧ (givingUp.spur 1).retryLimit < (givingUp.spur 1).drops[(5 : Fin 16)].retry + 1
      ∧ (∀ j : Fin 4, j ≠ 0 → (givingUp.spur 1).slots[j] = none)
      ∧ (let t := after (.outputConfirmReceive 1 (byte 5 :: (Frame.line 4 [2]).encode)) givingUp
         (t.spur 1).drops[(5 : Fin 16)].desired = (givingUp.spur 1).drops[(5 : Fin 16)].desired
          ∧ (t.spur 1).drops[(5 : Fin 16)].out = .unconfirmed) := by decide +kernel

theorem witness_ForeignFramesMatchOrDefault_chains :
    chainTriedFor cascade 1 0 0 ∧ chainTriedFor cascade 1 1 2 ∧ chainTriedFor cascade 1 3 3 ∧ ¬chainTriedFor cascade 0 1 2
      ∧ chainHits cascade 1 2 radioFrame ∧ ¬chainHits cascade 0 0 radioFrame ∧ ¬chainHits cascade 1 2 (radioFrame.take 63)
      ∧ chainHits cascade 3 3 (radioFrame.take 63) := by
  unfold chainTriedFor chainHits
  dsimp only
  refine ⟨?_, ?_, ?_, ?_, ?_, ?_, ?_, ?_⟩ <;> decide +kernel

/-- Segment 21 of zone 14, GAS_CLOSED by a forced TRIP of that zone, with a NORMAL circuit of the zone. -/
def forcedShut (forced : Bool) : State :=
  let s := decline { Segment.powerOn with state := if forced then .gasClosed else .opened, occupants := [⟨300, .inbye, 0, 120000, false⟩]
                                          waiting := [⟨302, .outbye, 0⟩] } [truck 300 [21] none, truck 302 [] (some 21)]
  let s := if forced then s.setZone 13 { Zone.powerOn with evaluated := true, localState := .trip, combined := .trip, force := true } else s
  s.setCsw { circuits := [⟨112, ⟨7, 85⟩, ⟨62, 239⟩, .spur 1, .trunk .east, 2, .normal, 14, .pending, 10000, 0, 0⟩], nextId := 0 }

theorem witness_ForceZoneTripAndRelease_moves :
    ordering (forcedShut false) 4 [14] (.forceZoneTrip []) = true ∧ ordering (forcedShut true) 5 [14] (.releaseZoneForce []) = true
      ∧ (forcedShut true).outputsSound = true ∧ (forcedShut true).alarmsSound = true ∧ (forcedShut true).gasSound = true
      ∧ (let t := after (.forceZoneTrip []) (given (forcedShut false) (order 4 [14]))
         t.csw.circuits.map (·.prec) = [.zone] ∧ (t.segment 4).state = .gasClosed ∧ (t.segment 4).waiting = [])
      ∧ (let t := after (.releaseZoneForce []) (given (forcedShut true) (order 5 [14]))
         (t.zone 13).combined = .clear ∧ (t.segment 4).state ≠ .gasClosed) := by decide +kernel

/-- R71 at its edges: with the reserve and one block free, one block of any class but no two; with two blocks free, two of IDENT. -/
theorem witness_TrunkArrivalChecks_fbf :
    let b (n : Nat) : Buffer := { ringed.fbf with free := List.range n }
    ringed.fbf.reserve = 16 ∧ acceptedByRule (b 17) (.raw (List.replicate 128 0)) ∧ ¬acceptedByRule (b 17) (.raw (List.replicate 129 0))
      ∧ ¬acceptedByRule (b 16) (.drift (passing ⟨7, 85⟩ 2 false)) ∧ acceptedByRule (b 1) (.drift (Frame.built .mgmt 0 3 ⟨0, 0⟩ ⟨0, 0⟩ []))
      ∧ ¬acceptedByRule (b 1) (.drift (Frame.built .alarm 0 3 ⟨0, 0⟩ ⟨0, 0⟩ (List.replicate 117 0))) := by
  unfold acceptedByRule; dsimp only; decide +kernel

/-- Bodies that fail R31: a HELLO, a class over 7, a payload length that disagrees, a node of 64, a bad CRC. -/
theorem witness_DescriptorAsksForPower_checks :
    [{ Frame.built .ident 0 3 ⟨0, 0⟩ ⟨7, 0⟩ [10, 49, 7, 0] with hop := 0 }, Frame.built .bulk 0 3 ⟨64, 1⟩ ⟨0, 0⟩ [1]].all (fun d =>
        crcGood d.encode && malformedOnSpur d.encode) = true
      ∧ malformedOnSpur [] = true ∧ malformedOnSpur ((descriptor 1).encode.set 12 0) = true
      ∧ [descriptor 1, { descriptor 1 with dst := ⟨64, 1⟩ }, Frame.built .bulk 0 3 ⟨0, 1⟩ ⟨0, 0⟩ [1]].all (fun d =>
        !malformedOnSpur d.encode) = true
      ∧ [AttachState.interrogating, .powered, .active].all (·.hearsHead) = true
      ∧ (descriptorOf ([1] ++ bytes16 32 ++ bytes32 (3 * 4 ^ 5))).isSome = false
      ∧ ((descriptorOf ([1] ++ bytes16 32 ++ bytes32 (2 * 4 ^ 5 + 3))).map fun k => k.kinds[(5 : Fin 16)]) = some .attention
      ∧ (descriptorOf ([1] ++ bytes16 32 ++ bytes16 0)).isSome = false := by decide +kernel

/-- R34: slot 0 is taken and drops 1, 3, 4 and 9 are PENDING, drop 3 after a mismatch: the three lowest go in flight, with retry counts 0,
2, 0. -/
theorem test_slots_go_to_lowest_pending :
    let r (retry : Nat) (mismatched : Bool) : Drop :=
      { Drop.powerOn with present := true, kind := .native, out := .pending, desired := 1, retry, mismatched }
    let q := { SpurPort.powerOn with
      state := .active, slots := SpurPort.powerOn.slots.set 0 (some ⟨5, some 500, true, false⟩)
      drops := (((SpurPort.powerOn.drops.set 9 (r 0 false)).set 4 (r 2 false)).set 3 (r 2 true)).set 1 (r 1 false) }.takeSlots
    (List.finRange 4).map (fun k => q.slots[k].map (·.drop)) = [some 5, some 1, some 3, some 4] ∧ q.setsWaiting = [1, 2, 3]
      ∧ [1, 3, 4, 9].map (fun d : Fin 16 => (q.drops[d].out, q.drops[d].retry))
        = [(.inFlight, 0), (.inFlight, 2), (.inFlight, 0), (.pending, 0)] := by decide +kernel

theorem witness_SpurFramesReachClassifier_refused :
    let s := oneBank 48 (lined .native)
    let d := Frame.built .bulk 0 3 ⟨0, 241⟩ ⟨0, 0⟩ [1]
    s.fbf.free.length = 16 ∧ ¬acceptedByRule s.fbf (.drift d) ∧ ¬acceptedByRule s.fbf (.raw [1]) ∧ malformedOnSpur d.encode = false
      ∧ malformedOnSpur [] = true ∧ s.mge.owed = [] ∧ s.mge.table.enables = 0 := by
  unfold acceptedByRule; dsimp only; decide +kernel

/-- SP2's drop 5 addresses station 255 of this node, and of all; SP5 is another line. -/
theorem witness_NativeFramesAreStampedAndSent_copies :
    [⟨0, 255⟩, ⟨7, 255⟩, ⟨63, 255⟩].all (fun dst : Addr =>
      let w : Waiting := ⟨.spur 1, 5, .native, 9, { held (.spur 1) (Frame.built .air 0 3 dst ⟨0, 0⟩ [0, 1]) with entry := none }⟩
      let s := classifying ((lined .native).setSpur 4 { SpurPort.powerOn with state := .active }) w
      let s := s.setCls { s.cls with windows := s.cls.windows.set 4 ⟨96, 111⟩ }
      let t := after (.classifyFrame (.spur 1) []) s
      s.cls.waiting.find? (·.port == .spur 1) == some w && s.mge.table.enables == 0 && s.active 4 && s.windowsSound
        && decide (s.fbf.reserve + 30 ≤ s.fbf.free.length) && ((allFin 6).all fun m => s.room (spurQueue m) 1)
        && (t.queue (spurQueue 4)).frames.length == 1 && (t.queue (spurQueue 1)).frames.isEmpty
        && (t.queue localQueue).frames.isEmpty) = true := by decide +kernel

/-- A SETUP refused for each cause, with what it finds: by the port it came from, the answer is the cause. -/
def refusals : List (Nat × PortId × Frame × List Circuit) :=
  let line (b : Addr) (prec : Nat) : Frame := setup ⟨7, 85⟩ 0 ⟨7, 85⟩ b 2 prec
  let trunk (tag : Nat) : Frame := { setup ⟨6, 243⟩ tag ⟨6, 9⟩ ⟨1, 1⟩ 1 1 with zone := 0 }
  [(12, .spur 1, line ⟨63, 1⟩ 3, []), (12, .trunk .east, trunk 0, []), (2, .trunk .east, trunk 112, [asked])
    , (3, .spur 1, line ⟨1, 1⟩ 0, (List.range 16).map fun i => { asked with id := 97 + i, sideA := .spur 0 })
    , (3, .trunk .east, trunk 112, (List.range 32).map fun i => { asked with id := 200 + i, sideA := .spur 0 })
    , (4, .spur 1, line ⟨7, 239⟩ 3, []), (4, .trunk .east, { trunk 9 with payload := bytes16 (Addr.code ⟨6, 9⟩) ++ bytes16 (Addr.code ⟨7, 1⟩) ++ [1, 1] }, [])
    , (5, .spur 1, line ⟨1, 1⟩ 0, (List.range 4).map fun i => { asked with id := 9 + i })]


theorem witness_CallSetupIsAdmitted_refused :
    refusals.all (fun (cause, p, d, cs) =>
      let s := calling p d cs
      let t := after (.callSetupReceive []) s
      s.hands [] 243 (held p d) d && d.subtype == 0 && d.dst.node != 63 && s.mge.table.enables == 0 && s.mge.owed == []
        && s.fbf.admits .call 3 && s.room (portQueue p) 3 && payloads t (portQueue p) == [[byte cause]] && t.csw == s.csw) = true := by
  decide +kernel

theorem witness_CallSetupIsAdmitted_causes (prec : Nat) (h : prec = 0 ∨ prec = 3) :
    unreadable (calling (.spur 1) (setup ⟨7, 85⟩ 0 ⟨7, 85⟩ ⟨63, 1⟩ 2 prec) []) (.spur 1) (setup ⟨7, 85⟩ 0 ⟨7, 85⟩ ⟨63, 1⟩ 2 prec)
      ∧ (let d := setup ⟨7, 85⟩ 0 ⟨7, 85⟩ ⟨7, 239⟩ 2 prec
         let s := calling (.spur 1) d []
         ¬unreadable s (.spur 1) d ∧ ¬noEntry s (.spur 1) d 2 ∧ ¬noEntry s (.spur 1) d 3 ∧ noWayOn s (.spur 1) (partiesOf s (.spur 1) d).2)
      ∧ (let d := { setup ⟨6, 243⟩ 112 ⟨6, 9⟩ ⟨1, 1⟩ 1 prec with zone := 0 }
         ¬unreadable (calling (.trunk .east) d [asked]) (.trunk .east) d ∧ noEntry (calling (.trunk .east) d [asked]) (.trunk .east) d 2
          ∧ noEntry (calling (.trunk .east) d ((List.range 32).map fun i => { asked with id := 200 + i })) (.trunk .east) d 3) := by
  unfold unreadable noEntry noWayOn partiesOf
  dsimp only
  refine ⟨?_, ⟨?_, ?_, ?_, ?_⟩, ?_, ?_, ?_⟩ <;> rcases h with rfl | rfl <;> decide +kernel

/-- A state in which an alarm's raise sends nothing but announcements; an urgent SETUP in it, one that fits and one of a gone party. -/
theorem witness_CallSetupIsAdmitted_urgent :
    let d := setup ⟨7, 85⟩ 0 ⟨7, 85⟩ ⟨62, 239⟩ 2 3
    let s := calling (.spur 1) d []
    s.calm ∧ asksFor s (.spur 1) d { asked with prec := .emergency } .emergency ∧ givesId s (.spur 1) d 112 0
      ∧ (s.taken [] (held (.spur 1) d)).reaches (.trunk .east) 239 6 ∧ (s.taken [] (held (.spur 1) d)).fbf.admits .call 3 = true
      ∧ s.room (portQueue (.trunk .east)) 3 = true ∧ ¬emergencyOf s.csw.circuits 85 ∧ s.alarmsSound = true
      ∧ ¬((s.setFbf { s.fbf with free := List.range 15, held := [] }).taken [] (held (.spur 1) d)).reaches (.trunk .east) 239 6 := by
  refine ⟨?_, ?_, ?_, ?_, ?_⟩
  · unfold State.calm; decide +kernel
  · unfold asksFor; dsimp only; decide +kernel
  · unfold givesId; dsimp only; exact ⟨by decide +kernel, 0, by decide +kernel⟩
  · unfold State.reaches State.leads; dsimp only; decide +kernel
  · unfold State.reaches State.leads emergencyOf; dsimp only; decide +kernel

/-- Two circuits make way: the SETUP goes on by the East port, and PREEMPTED goes out on both their sides. -/
theorem witness_CallSetupIsAdmitted_preempts :
    let s := contested .normal
    let x := s.taken [] (held (.spur 1) (setup ⟨7, 85⟩ 0 ⟨7, 85⟩ ⟨62, 239⟩ 2 2))
    let t := after (.callSetupReceive []) s
    (s.csw.circuits.filter fun c => !t.csw.circuits.contains c).map (·.id) = [20, 52] ∧ s.banksSound = true
      ∧ x.fbf.admits .call 7 = true ∧ x.reaches (.trunk .east) 239 6 ∧ x.reaches (.trunk .west) 1 1
      ∧ s.room (portQueue (.trunk .east)) 7 = true ∧ s.room (portQueue (.trunk .west)) 7 = true
      ∧ payloads t (portQueue (.trunk .west)) = [[6], [6]] ∧ (payloads t (portQueue (.trunk .east))).length = 3 := by
  unfold State.reaches State.leads; dsimp only; decide +kernel

/-- The trucks of a state as drop 5 of SP2 has heard them, their answers built by a reply page. -/
def heardByDrop (s : State) : State :=
  { s with
    spurs := (lined .native).spurs
    cls := { (lined .native).cls with pages := s.cls.pages.set 5 { Page.powerOn with used := 1 } }
    hlc := { s.hlc with trucks := s.hlc.trucks.map fun y => { y with via := ⟨7, 85⟩, page := some 5 } } }

/-- What the native ANSWERs on the East queue say. -/
def answers (s : State) : List (List Nat) :=
  (payloads s 0).filterMap fun p => if p.length = 10 then some ((List.range 5).map fun k => halfAt p (2 * k)) else none

/-- What the unsolicited answers' clauses ask of a state, natively and by page. -/
theorem witness_unsolicited_answers :
    [forcedShut false, heardByDrop (forcedShut false)].all (fun s =>
        s.roadsSound && s.outputsSound && s.banksSound && s.mge.owed == [] && s.mge.table.enables == 0 && s.fbf.admits .haul 22
          && s.fbf.admits .bulk 22 && s.room (trunkQueue .east) 22 && s.room (spurQueue 1) 22 && s.entryPort 6 == some .east
          && ordering s 11 [21] (.closeSegment []) && ordering s 4 [14] (.forceZoneTrip [])) = true
      ∧ (let s := heardByDrop (forcedShut false)
         s.dropOfStation? 85 = some (1, 5) ∧ (s.spur 1).state = .active ∧ (s.spur 1).drops[(5 : Fin 16)].present = true
          ∧ 0 < s.cls.pages[(5 : Fin 8)].used) := by decide +kernel

/-- R142, natively: PROCEED to the head that follows a clear, an opening and an expiry; HOLD CLOSED at a closure; HOLD GAS and EXIT at a
gas closure; EXIT at a BEACON in one. -/
theorem test_unsolicited_answers :
    let heard (s : State) (subtype : Nat) : State := given s (frameFor 242 .haul subtype 300 ⟨6, 66⟩ (fieldBytes [21]))
    answers (after (.haulClearReceive []) (heard (forcedShut false) 2)) = [[0, 0, 21, 120, 0]]
      ∧ answers (after (.openSegment []) (given (decline { Segment.powerOn with waiting := [⟨302, .outbye, 0⟩] } [truck 302 [] (some 21)])
          (order 10 [21]))) = [[0, 0, 21, 120, 0]]
      ∧ answers (after (.waitExpiry 4 301) (clocked 300000 (decline { Segment.powerOn with
          state := .opened, waiting := [⟨301, .outbye, 0⟩, ⟨302, .outbye, 1⟩] } [truck 301 [] (some 21), truck 302 [] (some 21)])))
        = [[0, 0, 21, 120, 0]]
      ∧ answers (after (.closeSegment []) (given (forcedShut false) (order 11 [21]))) = [[2, 5, 21, 0, 0]]
      ∧ answers (after (.forceZoneTrip []) (given (forcedShut false) (order 4 [14]))) = [[3, 6, 21, 0, 0], [2, 6, 21, 0, 0]]
      ∧ answers (after (.beaconReceive []) (heard (forcedShut true) 0)) = [[3, 6, 21, 0, 0]] := by decide +kernel

/-- By page: the drop that heard the truck gets the page, and no ANSWER leaves by the trunk. -/
theorem test_unsolicited_answer_by_page :
    let t := after (.closeSegment []) (given (heardByDrop (forcedShut false)) (order 11 [21]))
    (t.queue (spurQueue 1)).frames.map (fun g => (g.level, g.target, g.body)) = [(10, .drop 5, .raw [0])] ∧ answers t = [] := by
  decide +kernel

/-- A frame whose tag names circuit 112, from a port that is neither of its sides; and one whose tag names none. -/
theorem witness_CallsProgress_stray (tag : Nat) (h : tag = 112 ∨ tag = 113) :
    let d := { frameFor 243 .call 1 tag ⟨9, 243⟩ [] with level := 3 }
    let s := calling (.trunk .west) d [circuit .pending]
    s.calls [] (held (.trunk .west) d) d (.trunk .west) 1 ∧ (∀ c fromA, ¬belongs s (.trunk .west) d c fromA)
      ∧ (s.taken [] (held (.trunk .west) d)).reaches (.trunk .west) d.src.station 1 ∧ s.room (portQueue (.trunk .west)) 1 = true := by
  refine ⟨?_, fun c fromA hb => ?_, ?_, ?_⟩
  · unfold State.calls; rcases h with rfl | rfl <;> decide +kernel
  · obtain ⟨hc, hs⟩ := hb
    have hc' : c = circuit .pending := by
      rcases h with rfl | rfl
      · exact (Option.some.inj (hc.symm.trans (by decide +kernel)))
      · exact absurd (hc.symm.trans (by decide +kernel : _ = none)) (by simp)
    subst hc'
    cases fromA
    · exact absurd hs.1.1 (by decide)
    · exact absurd hs.1 (by decide)
  · unfold State.reaches State.leads; dsimp only; rcases h with rfl | rfl <;> decide +kernel
  · rcases h with rfl | rfl <;> decide +kernel

/-- An ALERT from side B that cannot be sent on: side A's spur port is not ACTIVE. -/
theorem witness_CallsProgress_unreached :
    let d := frameFor 243 .call 1 112 ⟨8, 243⟩ []
    let s := calling (.trunk .east) d [circuit .pending]
    let s := oneBank 1 (s.setSpur 1 { s.spur 1 with state := .faulted })
    s.poolSound = true ∧ s.calls [] (held (.trunk .east) d) d (.trunk .east) 1 ∧ belongs s (.trunk .east) d (circuit .pending) false
      ∧ ¬(s.taken [] (held (.trunk .east) d)).reaches (circuit .pending).sideA (circuit .pending).partyA.station 0 := by
  refine ⟨by decide +kernel, ?_, ?_, ?_⟩
  · unfold State.calls; decide +kernel
  · unfold belongs; dsimp only; exact ⟨by decide +kernel, ⟨by decide +kernel, fun _ h => by cases h⟩, fun h => absurd h.1 (by decide)⟩
  · unfold State.reaches State.leads; dsimp only [circuit, asked]; exact fun h => absurd h.2.1 (by decide +kernel)

/-- A circuit at its deadline, which can be released toward both its sides. -/
theorem witness_CallsAreReleased_sent :
    let c := circuit .alerting
    let s := clocked 10000 ((lined .native).setCsw { circuits := [c], nextId := 0 })
    s.circuit? 112 = some c ∧ s.reached c.deadline = true ∧ s.banksSound = true ∧ s.mge.owed = [] ∧ c.prec ≠ .emergency
      ∧ s.reaches c.sideA c.partyA.station 1 ∧ s.reaches c.sideB c.partyB.station 1 ∧ s.fbf.admits .call 2 = true
      ∧ s.room (portQueue c.sideA) 2 = true ∧ s.room (portQueue c.sideB) 2 = true ∧ s.mge.table.enables = 0
      ∧ (given s (order 13 [112])).banksSound = true ∧ ordering s 13 [112] (.releaseCircuit []) = true := by
  refine ⟨?_, ?_, ?_, ?_, ?_, ?_, ?_, ?_⟩ <;> (try unfold State.reaches State.leads) <;> dsimp only [circuit, asked] <;> decide +kernel

theorem witness_EventsClearAndSavesEnd_notice :
    let s := ringed.setMge { ringed.mge with table := { ringed.mge.table with enables := 4 } }
    s.mge.owed = [] ∧ s.mge.events.getLsbD (eventKinds.idxOf .noRoute) = false ∧ s.mge.table.enables.getLsbD (eventKinds.idxOf .noRoute) = true
      ∧ (∀ a ∈ [s.mge.table.station1, s.mge.table.station2].filter (· ≠ ⟨0, 0⟩), a.node ≠ s.node) ∧ s.up .east = true
      ∧ s.room (trunkQueue .east) 2 = true ∧ s.room (trunkQueue .west) 2 = true ∧ s.fbf.admits .mgmt 2 = true ∧ s.entryPort s.mge.table.station1.node = some .east
      ∧ ((s.raise .noRoute).settle.queue 0).frames.map (·.body) = [.drift (noticeOf s .noRoute 4 ⟨1, 10⟩)] := by decide +kernel

/-- A WRITE that the node accepts. -/
def writing (s : State) (table index : Nat) (fs : List Nat) : Bool :=
  asking s (write table index fs) (writeRow table []) && fs.length == entryFields table index && (s.write false table index fs).isOk

/-- The state after a WRITE. -/
def afterWrite (s : State) (table index : Nat) (fs : List Nat) : State :=
  after (writeRow table []) (given s (write table index fs))

/-- A WRITE of NODE that raises the budget, and one that names the first control station where an entry waits to be announced. -/
theorem witness_WritesReplaceTheirEntry_node :
    (let fs := (waitingPower.entry 1 0).set 4 20
     let t := afterWrite waitingPower 1 0 fs
     writing waitingPower 1 0 fs = true ∧ waitingPower.mge.table.budget < fieldAt fs 5 ∧ (t.spur 2) = poweredAgain waitingPower 2
      ∧ (t.spur 4) = waitingPower.spur 4)
      ∧ (let s := listed [posted 1 true false]
         let s := (s.setAlc { s.alc with gapDue := none }).setMge { s.mge with table := { s.mge.table with station1 := ⟨0, 0⟩ } }
         let fs := (s.entry 1 0).set 2 266
         writing s 1 0 fs = true ∧ s.alc.island = false ∧ (afterWrite s 1 0 fs).alc.gapDue = some (s.after 50)) := by decide +kernel

/-- Channel 17 disabled with FAIL set, brought down to a new full scale, and enabled. -/
theorem witness_WritesReplaceTheirEntry_channel :
    (let s := channelIn .trip false true
     let t := afterWrite s 7 17 ((s.readEntry 7 17).set 0 0)
     writing s 7 17 ((s.readEntry 7 17).set 0 0) = true ∧ s.alarmsSound = true ∧ (t.channel 17).state = .starting
      ∧ (t.channel 17).cfg.enabled = false)
      ∧ (let s := ringed.setChannel 17 { methane with smoothed := 4000, calibrated := 10 }
         let fs := (s.readEntry 7 17).set 7 3000
         writing s 7 17 fs = true ∧ ((afterWrite s 7 17 fs).channel 17).smoothed = 3000)
      ∧ (let s := ringed.setChannel 17 { methane with cfg := { methane.cfg with enabled := false }, lastRaw := 9 }
         let fs := (s.readEntry 7 17).set 0 1
         writing s 7 17 fs = true ∧ ((afterWrite s 7 17 fs).channel 17).lastRaw = 0) := by decide +kernel

/-- Channel 17 disabled with FAIL set: the evaluation of its zone that follows the end of its fault. -/
theorem witness_WritesReplaceTheirEntry_channelFault :
    let s := faulted .fault true true
    let fs := (s.readEntry 7 17).set 0 0
    let t := afterWrite s 7 17 fs
    writing s 7 17 fs = true ∧ stands s = true ∧ t.alc.holdsActive .channelFault 17 = false ∧ t.alc.holdsActive .gasTrip 14 = false
      ∧ (t.segment 4).state = .opened := by decide +kernel

/-- Zone 14 enabled, which sends its report; disabled, which drops its reporters; and given a policy under which segment 21 reopens. -/
theorem witness_WritesReplaceTheirEntry_zone :
    (let s := ringed.setZone 13 { Zone.powerOn with evaluated := true }
     let fs := (s.readEntry 8 14).set 0 1
     let t := afterWrite s 8 14 fs
     writing s 8 14 fs = true ∧ t.zone 13 = { s.zone 13 with enabled := true, lastSent := s.time } ∧ s.entryPort 63 = some .east
      ∧ (given s (write 8 14 fs)).banksSound = true ∧ s.room (trunkQueue .east) 1 = true ∧ s.fbf.admits .air 1 = true
      ∧ (t.queue 0).frames.any (·.origin == .zoneReport) = true)
      ∧ (let s := reported 8 .alert
         let fs := (s.readEntry 8 4).set 0 0
         writing s 8 4 fs = true ∧ ((afterWrite s 8 4 fs).zone 3).reporters = [] ∧ ((afterWrite s 8 4 fs).zone 3).combined = .clear)
      ∧ (let s := (decline { Segment.powerOn with state := .gasClosed } []).setZone 13
           { Zone.powerOn with evaluated := true, localState := .alert, combined := .alert, policy := .close }
         let fs := (s.readEntry 8 14).set 2 0
         writing s 8 14 fs = true ∧ ((afterWrite s 8 14 fs).segment 4).state ≠ .gasClosed) := by decide +kernel

/-- A relay that a WRITE energises, with its feedback open, or closed already while its fault stands. -/
theorem witness_WritesReplaceTheirEntry_relay :
    let s (r : Relay) := (ringed.setRelay 2 r).setAlc { ringed.alc with island := true }
    let fs := [2, 15, 0, 0, 0, 0, 0]
    (let x := s Relay.powerOn
     writing x 9 2 fs = true ∧ ((afterWrite x 9 2 fs).relay 2).energised = true ∧ ((afterWrite x 9 2 fs).relay 2).mismatchDue = some 200)
      ∧ (let x := s { Relay.powerOn with closed := true, fault := true }
         writing x 9 2 fs = true ∧ x.alarmsSound = true ∧ ((afterWrite x 9 2 fs).relay 2).fault = false) := by decide +kernel

/-- Segment 21: its id changed; in a zone in TRIP; reopened; and its head promoted. -/
theorem witness_WritesReplaceTheirEntry_segment :
    (let s := decline { Segment.powerOn with state := .opened } []
     let fs := (s.entry 10 4).set 0 22
     writing s 10 4 fs = true ∧ ((afterWrite s 10 4 fs).segment 4).state = .closed)
      ∧ (let s := (decline { Segment.powerOn with state := .gasClosed } []).setZone 13 { Zone.powerOn with evaluated := true }
         let fs := s.entry 10 4
         writing s 10 4 fs = true ∧ ((afterWrite s 10 4 fs).segment 4).state ≠ .gasClosed)
      ∧ (let s := (decline { Segment.powerOn with state := .opened } []).setZone 8
           { Zone.powerOn with evaluated := true, localState := .trip, combined := .trip }
         let fs := (s.entry 10 4).set 1 9
         writing s 10 4 fs = true ∧ ((afterWrite s 10 4 fs).segment 4).state = .gasClosed)
      ∧ (let s := decline { Segment.powerOn with state := .opened, waiting := [⟨301, .outbye, 5000⟩] } [truck 301 [] (some 21)]
         let fs := s.entry 10 4
         writing s 10 4 fs = true ∧ s.barred (s.segment 4) 301 = false
          ∧ ((afterWrite s 10 4 fs).segment 4).occupants.map (·.truck) = [301]) := by decide +kernel

/-- The action of a listed alarm of zone 14 becomes LOCKDOWN, with an output mask; and leaves LOCKDOWN. -/
theorem witness_WritesReplaceTheirEntry_action :
    let s (mode : ActionMode) (state : SegState) :=
      let x := decline { Segment.powerOn with state } []
      ((x.setAlc { x.alc with
        alarms := [⟨1, .refugePanic, 1, 14, some ⟨1, 5⟩, 3, 8, true, false, 0, true, false, 0⟩], serial := 1, born := 1
        actions := x.alc.actions.set 3 ⟨mode, 8, 0, .sourceDrop⟩ }).setRelay 1 { Relay.powerOn with
          func := .severityAtLeast, severity := 8 }).driveOutputs.driveRelays fun _ => true
    (let x := s .announceTrip .opened
     let t := afterWrite x 12 3 [3, 8, 5, 0]
     writing x 12 3 [3, 8, 5, 0] = true ∧ x.alarmsSound = true ∧ (t.relay 1).energised = true ∧ t.alc.lockdown[(13 : Fin 31)] = 1 ∧ (t.segment 4).state = .gasClosed
      ∧ (t.spur 1).drops[(5 : Fin 16)].desired = 5)
      ∧ (let x := s .lockdown .gasClosed
         let t := afterWrite x 12 3 [0, 8, 0, 0]
         writing x 12 3 [0, 8, 0, 0] = true ∧ x.alc.lockdown[(13 : Fin 31)] = 1 ∧ t.alc.lockdown[(13 : Fin 31)] = 0
          ∧ (t.segment 4).state ≠ .gasClosed) := by decide +kernel

/-- Drop 5 of SP2, in flight, moves to another zone. -/
theorem witness_WritesReplaceTheirEntry_spur :
    let s := output .inFlight 0 false
    let fs := (s.entry 13 1).set 7 3
    writing s 13 1 fs = true ∧ ((afterWrite s 13 1 fs).spur 1).drops[(5 : Fin 16)].zone = 3 ∧ ((s.spur 1).slots[(0 : Fin 4)]).isSome = true
      ∧ ((afterWrite s 13 1 fs).spur 1).slots[(0 : Fin 4)] = (s.spur 1).slots[(0 : Fin 4)] := by decide +kernel

end Sys2Proof.Tests
end

section
/-! R60: EXCHANGE_RULESET makes the standby rule set live and the live one standby, and counts the exchange. -/

namespace Sys2Proof.Machine

/-! ## The cells of the event status word -/

theorem EventKind.bit_lt (e : EventKind) : e.bit < 16 := by cases e <;> decide

/-- R180: an event's own cell is set once it is raised. -/
@[simp] theorem State.raise_has (s : State) (e : EventKind) : (s.raise e).mge.has e = true := by
  have hcell : (BitVec.ofNat 16 (2 ^ e.bit)).getLsbD e.bit = true := by
    rw [BitVec.getLsbD_ofNat, Nat.testBit_two_pow_self, Bool.and_true, decide_eq_true e.bit_lt]
  rw [raise, Manager.has, setMge_mge, BitVec.getLsbD_or, hcell, Bool.or_true]

/-! ## What the view of a state without its traffic keeps of CLS -/

theorem State.cls_of_quiet {s t : State} (h : t.quiet = s.quiet) : t.cls = s.cls := by
  obtain ⟨-, -, -, -, -, hcls, -⟩ := quiet_eq_iff.mp h
  exact hcls

/-- States that agree but for the traffic agree so too once CLS has the same record in both. -/
theorem State.setCls_quiet_congr {s t : State} (h : t.quiet = s.quiet) (x : Classifier) :
    (t.setCls x).quiet = (s.setCls x).quiet :=
  congrArg (fun q : State => q.setCls x) h

/-! ## The exchange -/

theorem SetName.other_eq (n : SetName) : n.other = if n = .a then .b else .a := by cases n <;> rfl

theorem SetName.ctorIdx_eq (n : SetName) : n.ctorIdx = if n = .a then 0 else 1 := by cases n <;> rfl

/-- R60: with the names exchanged the live set is the one that was standby. -/
theorem Classifier.liveSet_of_live_other (c : Classifier) (generation : Nat) :
    { c with live := c.live.other, generation }.liveSet = if c.live = .a then c.setB else c.setA := by
  cases hlive : c.live <;> rfl

/-- R60: the generation counts from 0 to 255 and starts again. -/
theorem generation_succ_mod {g : Nat} (h : g ≤ 255) : (g + 1) % 256 = if g = 255 then 0 else g + 1 := by
  split <;> omega

/-- A command without arguments is taken as every request is. -/
theorem State.commands_zero {s : State} {u : Upsets} {f : Stored} {d : Frame} {row : Instr} (h : s.asks u f d row = true) :
    s.commands u f d row 0 = true := by
  simp [commands, h]

/-- Settles O29: the effect is the model's exchange, run once the request has left LOCAL, which touches the traffic only. -/
theorem exchangeRulesetSwapsSets : Obligations.ExchangeRulesetSwapsSets := by
  intro u f d s hasks hgen generation live
  have htaken : (s.taken u f).quiet = s.quiet := State.taken_quiet s u f
  have hcls : (s.taken u f).cls = s.cls := State.cls_of_quiet htaken
  have hlive : s.cls.live.other = live := SetName.other_eq _
  have hgeneration : (s.cls.generation + 1) % 256 = generation := generation_succ_mod hgen
  have heffect : (s.taken u f).exchange (commandArgs d.payload)
      = .ok (((s.taken u f).setCls { s.cls with live, generation }).raise .rulesetExchanged,
          [if live = .a then 0 else 1, generation]) := by
    simp only [State.exchange, hcls, hlive, hgeneration, SetName.ctorIdx_eq]
  refine State.command_answers (State.commands_zero hasks) heffect ⟨State.raise_has .., ?_, ?_⟩
  · rw [State.raise_cls, State.setCls_cls, ← hlive]
    exact Classifier.liveSet_of_live_other ..
  · rw [State.raise_quiet]
    exact State.setCls_quiet_congr htaken _

end Sys2Proof.Machine
end

section
/-! R180: within a step no event cell is cleared by the traffic. -/

namespace Sys2Proof.Machine

/-! ## Events stay raised

R180: within a step no cell is cleared by the traffic: every operation that carries frames leaves a raised event raised. -/

theorem State.raise_keeps_has {s : State} {e : EventKind} (k : EventKind) (h : s.mge.has e = true) : (s.raise k).mge.has e = true := by
  rw [Manager.has] at h
  rw [raise, Manager.has, setMge_mge, BitVec.getLsbD_or, h, Bool.true_or]

theorem State.offer_keeps_has {s : State} {e : EventKind} (c : FrameClass) (n : Nat) (h : s.mge.has e = true) :
    (s.offer c n).2.mge.has e = true := by
  simp only [offer]
  split
  · exact h
  · exact raise_keeps_has _ h

theorem State.store_keeps_has {s : State} {e : EventKind} (f : Stored) (h : s.mge.has e = true) :
    (s.store f).2.mge.has e = true := by
  have hoffer := offer_keeps_has f.body.cls (blocksFor f.body.size) h
  simp only [store]
  split <;> rename_i heq <;> rw [heq] at hoffer <;> exact hoffer

theorem State.retiredTest_keeps_has {s : State} {e : EventKind} (k : Fin 4) (h : s.mge.has e = true) :
    (s.retiredTest k).mge.has e = true := by
  simp only [retiredTest]
  split
  · exact raise_keeps_has (s := s.setBank k _) _ h
  · exact h

theorem State.free_keeps_has {s : State} {e : EventKind} (l : List Nat) (h : s.mge.has e = true) :
    (s.free l).mge.has e = true :=
  List.foldlRecOn (motive := fun t : State => t.mge.has e = true) _ _ h fun _ ht k _ => retiredTest_keeps_has k ht

theorem State.discardPushed_keeps_has {s : State} {e : EventKind} (f : Stored) (h : s.mge.has e = true) :
    (s.discardPushed f).mge.has e = true := raise_keeps_has _ (free_keeps_has _ h)

theorem State.place_keeps_has {s : State} {e : EventKind} (q : Fin 9) (f : Stored) (h : s.mge.has e = true) :
    (s.place q f).2.mge.has e = true := by
  simp only [place]
  split
  · exact raise_keeps_has (s := s.setQueue q _) _ h
  · exact List.foldlRecOn (motive := fun t : State => t.mge.has e = true) _ _ h fun _ ht g _ => discardPushed_keeps_has g ht

theorem State.enqueue_keeps_has {s : State} {e : EventKind} (q : Fin 9) (f : Stored) (h : s.mge.has e = true) :
    (s.enqueue q f).mge.has e = true := by
  have hplace := place_keeps_has q f h
  simp only [enqueue]
  split <;> rename_i heq <;> rw [heq] at hplace
  · exact hplace
  · exact free_keeps_has _ hplace

theorem State.noRoute_keeps_has {s : State} {e : EventKind} (f : Stored) (h : s.mge.has e = true) :
    (s.noRoute f).mge.has e = true := raise_keeps_has _ (free_keeps_has _ h)

theorem State.spurTake_keeps_has {s : State} {e : EventKind} (n : Fin 6) (t : Target) (f : Stored) (h : s.mge.has e = true) :
    (s.spurTake n t f).2.mge.has e = true := by
  simp only [spurTake]
  split
  · exact enqueue_keeps_has _ _ h
  · exact noRoute_keeps_has f h

theorem State.withBlocks_keeps_has {s : State} {e : EventKind} (f : Stored) (h : s.mge.has e = true) :
    (s.withBlocks f).2.mge.has e = true := by
  simp only [withBlocks]
  split
  · exact store_keeps_has f h
  · exact h

theorem State.copyTo_keeps_has {e : EventKind} (l : List (Fin 6)) {s : State} (f : Stored) (h : s.mge.has e = true) :
    (s.copyTo f l).mge.has e = true := by
  induction l generalizing s f with
  | nil => exact free_keeps_has _ h
  | cons n l ih =>
    have hblocks := withBlocks_keeps_has f h
    simp only [copyTo]
    split <;> rename_i heq <;> rw [heq] at hblocks
    · exact ih _ (spurTake_keeps_has _ _ _ hblocks)
    · exact ih _ hblocks

theorem State.deliver_keeps_has {s : State} {e : EventKind} (f : Stored) (d : Frame) (h : s.mge.has e = true) :
    (s.deliver f d).2.mge.has e = true := by
  have hblocks := withBlocks_keeps_has f h
  simp only [deliver]
  split
  · exact copyTo_keeps_has _ _ h
  · split
    · split
      · split <;> rename_i heq <;> rw [heq] at hblocks
        · exact enqueue_keeps_has _ _ hblocks
        · exact hblocks
      · exact noRoute_keeps_has f h
    · split
      · split <;> rename_i heq <;> rw [heq] at hblocks
        · exact spurTake_keeps_has _ _ _ hblocks
        · exact hblocks
      · exact noRoute_keeps_has f h

theorem State.trunkEnter_keeps_has {s : State} {e : EventKind} (f : Stored) (d : Frame) (h : s.mge.has e = true) :
    (s.trunkEnter f d).2.mge.has e = true := by
  simp only [trunkEnter]
  split
  · exact h
  · exact place_keeps_has _ _ h

theorem State.originate_keeps_has {s : State} {e : EventKind} (d : Frame) (o : Origin) (h : s.mge.has e = true) :
    (s.originate d o).2.mge.has e = true := by
  have hstore := store_keeps_has (.make (.drift d) d.level o) h
  simp only [originate]
  split <;> rename_i heq <;> rw [heq] at hstore
  · exact hstore
  · rename_i f s1
    split
    · exact deliver_keeps_has f d hstore
    · have henter := trunkEnter_keeps_has f d hstore
      have hfree := free_keeps_has f.blocks henter
      split <;> rename_i heq' <;> rw [heq'] at henter hfree
      · exact henter
      · exact hfree
      · exact hfree

theorem State.sendNotices_keeps_has {s : State} {e : EventKind} (k : EventKind) (h : s.mge.has e = true) :
    (s.sendNotices k).mge.has e = true :=
  List.foldlRecOn (motive := fun t : State => t.mge.has e = true) _ _ h fun _ ht _ _ => originate_keeps_has _ _ ht

theorem State.settleFor_keeps_has {e : EventKind} (k : Nat) {s : State} (h : s.mge.has e = true) :
    (State.settleFor k s).mge.has e = true := by
  induction k generalizing s with
  | zero => exact h
  | succ k ih =>
    simp only [settleFor]
    split
    · exact h
    · refine ih (sendNotices_keeps_has _ ?_)
      simpa only [Manager.has] using h

theorem State.settle_keeps_has {s : State} {e : EventKind} (h : s.mge.has e = true) : s.settle.mge.has e = true :=
  settleFor_keeps_has _ h

end Sys2Proof.Machine
end

section
/-! R144, R145, R151, R152, R164: one segment of one zone under the operations of haul control and under its zone's lockdown. -/

namespace Sys2Proof.Machine

/-! ## What haul control leaves of ALC -/

theorem State.alc_of_quiet {s t : State} (h : t.quiet = s.quiet) : t.alc = s.alc := by
  obtain ⟨-, -, -, -, -, -, -, -, -, -, -, halc, -⟩ := quiet_eq_iff.mp h
  exact halc

@[simp] theorem State.modTruck_alc (s : State) (id : Nat) (f : Truck → Truck) : (s.modTruck id f).alc = s.alc := rfl
@[simp] theorem State.truckTest_alc (s : State) (id : Nat) : (s.truckTest id).alc = s.alc := rfl
@[simp] theorem State.grant_alc (s : State) (i : Fin 16) (t : Nat) (d : Direction) : (s.grant i t d).alc = s.alc := rfl
@[simp] theorem State.answerTruck_alc (s : State) (t : Nat) (a : Answer) : (s.answerTruck t a).alc = s.alc :=
  alc_of_quiet (by simp)

@[simp] theorem State.promoteFor_alc (k : Nat) (i : Fin 16) (s : State) : (s.promoteFor k i).alc = s.alc := by
  induction k generalizing s with
  | zero => rfl
  | succ k ih =>
    simp only [promoteFor]
    split
    · split <;> simp [ih]
    · rfl

@[simp] theorem State.promote_alc (s : State) (i : Fin 16) : (s.promote i).alc = s.alc := promoteFor_alc ..

@[simp] theorem State.dismissWaiting_alc (s : State) (i : Fin 16) (r : Nat) : (s.dismissWaiting i r).alc = s.alc :=
  foldl_keeps State.alc _ (by simp) _ _

@[simp] theorem State.closeForGas_alc (s : State) (i : Fin 16) : (s.closeForGas i).alc = s.alc := by
  simp only [closeForGas]
  rw [foldl_keeps State.alc _ (by simp), dismissWaiting_alc]
  rfl

@[simp] theorem State.closureTest_alc (s : State) (i : Fin 16) : (s.closureTest i).alc = s.alc := by
  simp only [closureTest]; split <;> simp

@[simp] theorem State.reopenTest_alc (s : State) (i : Fin 16) : (s.reopenTest i).alc = s.alc := by
  simp only [reopenTest]
  split
  · split
    · rfl
    · exact promote_alc ..
  · rfl

@[simp] theorem State.closeZone_alc (s : State) (n : Nat) : (s.closeZone n).alc = s.alc := foldl_keeps State.alc _ (by simp) _ _

@[simp] theorem State.reopenZone_alc (s : State) (n : Nat) : (s.reopenZone n).alc = s.alc :=
  foldl_keeps State.alc _ (by simp) _ _

@[simp] theorem State.haulTransition_alc (s : State) (n : Nat) : (s.haulTransition n).alc = s.alc := by
  simp only [haulTransition]; split <;> simp

/-! ## What the gas policy reads: the zones, which haul control and ALC leave -/

theorem State.zones_of_still {s t : State} (h : t.still = s.still) : t.zones = s.zones := (congrArg State.zones h :)
theorem State.csw_of_still {s t : State} (h : t.still = s.still) : t.csw = s.csw := (congrArg State.csw h :)
theorem State.zoneCopy_of_still {s t : State} (h : t.still = s.still) : t.alc.zoneCopy = s.alc.zoneCopy :=
  (congrArg (fun x : State => x.alc.zoneCopy) h :)
theorem State.actions_of_still {s t : State} (h : t.still = s.still) : t.alc.actions = s.alc.actions :=
  (congrArg (fun x : State => x.alc.actions) h :)
theorem State.time_of_still {s t : State} (h : t.still = s.still) : t.time = s.time := (congrArg State.time h :)

theorem State.zone_of_still {s t : State} (h : t.still = s.still) (z : Fin 31) : t.zone z = s.zone z := by
  rw [zone, zone, zones_of_still h]

theorem State.combined_of_still {s t : State} (h : t.still = s.still) (n : Nat) : t.combined n = s.combined n := by
  rw [combined, combined, zone?, zone?, funext (zone_of_still h)]

theorem State.policy_of_still {s t : State} (h : t.still = s.still) (n : Nat) : t.policy n = s.policy n := by
  rw [policy, policy, zone?, zone?, funext (zone_of_still h)]

theorem State.lockedDown_of_alc {s t : State} (h : t.alc.lockdown = s.alc.lockdown) (n : Nat) :
    t.lockedDown n = s.lockedDown n := by
  rw [lockedDown, lockedDown, h]

/-- A segment's configuration is not what a transition or an alarm moves. -/
theorem State.segment_still_of_still {s t : State} (h : t.still = s.still) (i : Fin 16) :
    (t.segment i).still = (s.segment i).still := by
  have hhlc : vmap Segment.still t.hlc.segments = vmap Segment.still s.hlc.segments :=
    (congrArg (fun x : State => x.hlc.segments) h :)
  have hget : ∀ x : State, (x.segment i).still = (vmap Segment.still x.hlc.segments)[i.val] := fun x => by
    simp [State.segment]
  rw [hget, hget, hhlc]

theorem Segment.inZone_of_still {g g' : Segment} (h : g'.still = g.still) (n : Nat) : g'.inZone n = g.inZone n := by
  have hid : g'.id = g.id := (congrArg Segment.id h :)
  have hzone : g'.zone = g.zone := (congrArg Segment.zone h :)
  rw [inZone, inZone, hid, hzone]

theorem zoneIx_succ (z : Fin 31) : zoneIx (z.val + 1) = some z := by
  simp [zoneIx, z.isLt]

theorem State.combined_succ (s : State) (z : Fin 31) : s.combined (z.val + 1) = (s.zone z).combined := by
  simp [combined, zone?, zoneIx_succ]

theorem State.lockedDown_succ (s : State) (z : Fin 31) : s.lockedDown (z.val + 1) = (s.alc.lockdown[z] != 0) := by
  simp [lockedDown, zoneIx_succ]

/-! ## One segment under the operations of haul control -/

/-- A segment without its trucks: what a grant or a promotion leaves of it. -/
def Segment.bare (g : Segment) : Segment := { g with occupants := [], waiting := [] }

/-- R151: a segment closed for gas, where it is not closed so already. -/
def Segment.shut (g : Segment) : Segment :=
  if g.state = .gasClosed then g else { g with state := .gasClosed, waiting := [] }

/-- R152: a segment reopened, where it is closed for gas, has auto-reopen and `may` reopen. -/
def Segment.reopened (may : Bool) (g : Segment) : Segment :=
  if g.state = .gasClosed ∧ g.autoReopen = true ∧ may = true then
    { g with state := if g.commandClose then .closed else .opened }
  else g

theorem State.segment_of_quiet {s t : State} (h : t.quiet = s.quiet) (i : Fin 16) : t.segment i = s.segment i := by
  obtain ⟨-, -, -, -, -, -, -, -, -, -, hhlc, -⟩ := quiet_eq_iff.mp h
  rw [segment, segment, hhlc]

@[simp] theorem State.modTruck_segment (s : State) (id : Nat) (f : Truck → Truck) (i : Fin 16) :
    (s.modTruck id f).segment i = s.segment i := rfl
@[simp] theorem State.truckTest_segment (s : State) (id : Nat) (i : Fin 16) : (s.truckTest id).segment i = s.segment i := rfl
@[simp] theorem State.answerTruck_segment (s : State) (t : Nat) (a : Answer) (i : Fin 16) :
    (s.answerTruck t a).segment i = s.segment i := segment_of_quiet (by simp) i

theorem State.grant_segment_ne {i j : Fin 16} (h : j ≠ i) (s : State) (t : Nat) (d : Direction) :
    (s.grant j t d).segment i = s.segment i := setSegment_segment_ne s h _

theorem State.grant_segment_bare (s : State) (i : Fin 16) (t : Nat) (d : Direction) :
    ((s.grant i t d).segment i).bare = (s.segment i).bare := by
  simp [grant, Segment.bare, Segment.unwait]

theorem State.promoteFor_segment_ne {i j : Fin 16} (h : j ≠ i) (k : Nat) (s : State) :
    (s.promoteFor k j).segment i = s.segment i := by
  induction k generalizing s with
  | zero => rfl
  | succ k ih =>
    simp only [promoteFor]
    split
    · split
      · rw [ih, answerTruck_segment, grant_segment_ne h]
      · rfl
    · rfl

theorem State.promoteFor_segment_bare (k : Nat) (s : State) (i : Fin 16) :
    ((s.promoteFor k i).segment i).bare = (s.segment i).bare := by
  induction k generalizing s with
  | zero => rfl
  | succ k ih =>
    simp only [promoteFor]
    split
    · split
      · rw [ih, answerTruck_segment, grant_segment_bare]
      · rfl
    · rfl

/-- R145: no truck is promoted into a segment of a zone in TRIP. -/
theorem State.promoteFor_trip {s : State} {i : Fin 16} (h : s.combined (s.segment i).zone = .trip) (k : Nat) :
    s.promoteFor k i = s := by
  cases k with
  | zero => rfl
  | succ k =>
    have hbarred : ∀ truck, s.barred (s.segment i) truck = true := fun truck => by simp [barred, h]
    simp only [promoteFor]
    split
    · simp [hbarred]
    · rfl

theorem State.dismissWaiting_segment (s : State) (j : Fin 16) (r : Nat) (i : Fin 16) :
    (s.dismissWaiting j r).segment i = (s.setSegment j { s.segment j with waiting := [] }).segment i :=
  foldl_keeps (State.segment · i) _ (by simp) _ _

theorem State.closeForGas_segment (s : State) (i : Fin 16) :
    (s.closeForGas i).segment i = { s.segment i with state := .gasClosed, waiting := [] } := by
  rw [closeForGas, foldl_keeps (State.segment · i) _ (by simp), dismissWaiting_segment]
  simp

theorem State.closeForGas_segment_ne {i j : Fin 16} (h : j ≠ i) (s : State) :
    (s.closeForGas j).segment i = s.segment i := by
  rw [closeForGas, foldl_keeps (State.segment · i) _ (by simp), dismissWaiting_segment,
    setSegment_segment_ne _ h, setSegment_segment_ne _ h]

theorem State.closureTest_segment_ne {i j : Fin 16} (h : j ≠ i) (s : State) :
    (s.closureTest j).segment i = s.segment i := by
  simp only [closureTest]
  split
  · exact closeForGas_segment_ne h s
  · rfl

/-- R151: the closure test of a used segment whose zone is in TRIP or locked down. -/
theorem State.closureTest_segment {s : State} {i : Fin 16} {n : Nat} (hin : (s.segment i).inZone n = true)
    (hgas : s.combined n = .trip ∨ s.lockedDown n = true) : (s.closureTest i).segment i = (s.segment i).shut := by
  simp only [Segment.inZone, Bool.and_eq_true, bne_iff_ne, beq_iff_eq] at hin
  obtain ⟨hid, rfl⟩ := hin
  by_cases hstate : (s.segment i).state = .gasClosed
  · simp [closureTest, Segment.shut, hstate]
  · rw [closureTest, if_pos ⟨hid, hstate, hgas⟩, closeForGas_segment, Segment.shut, if_neg hstate]

theorem State.reopenTest_segment_ne {i j : Fin 16} (h : j ≠ i) (s : State) :
    (s.reopenTest j).segment i = s.segment i := by
  simp only [reopenTest]
  split
  · split
    · exact setSegment_segment_ne s h _
    · rw [promote, promoteFor_segment_ne h, setSegment_segment_ne s h]
  · rfl

theorem State.mayReopen_eq (s : State) (n : Nat) : s.mayReopen n = (!s.lockedDown n && reopens (s.combined n) (s.policy n)) := by
  rw [mayReopen]
  cases s.combined n <;> rfl

/-- R152: the reopening test of a used segment. -/
theorem State.reopenTest_segment {s : State} {i : Fin 16} {n : Nat} (hin : (s.segment i).inZone n = true) :
    ((s.reopenTest i).segment i).bare = (s.segment i).bare.reopened (s.mayReopen n) := by
  simp only [Segment.inZone, Bool.and_eq_true, bne_iff_ne, beq_iff_eq] at hin
  obtain ⟨hid, rfl⟩ := hin
  by_cases hopen : (s.segment i).state = .gasClosed ∧ (s.segment i).autoReopen = true ∧ s.mayReopen (s.segment i).zone = true
  · have hreopened : (s.segment i).bare.reopened (s.mayReopen (s.segment i).zone)
        = { (s.segment i).bare with state := if (s.segment i).commandClose then .closed else .opened } := if_pos hopen
    rw [reopenTest, if_pos ⟨hid, hopen⟩, hreopened]
    split
    · simp [Segment.bare]
    · rw [promote, promoteFor_segment_bare]
      simp [Segment.bare]
  · have hsame : (s.segment i).bare.reopened (s.mayReopen (s.segment i).zone) = (s.segment i).bare := if_neg hopen
    rw [reopenTest, if_neg fun h => hopen h.2, hsame]

/-! ## A fold that concerns one entry -/

/-- A fold over distinct entries of which one alone moves a view acts on the view once, from a state that has what the fold keeps. -/
theorem foldl_acts_once {α β : Type} {view : State → β} {inv : State → Prop} {f : State → α → State} {a : α} {l : List α}
    (hl : l.Nodup) (ha : a ∈ l) (hinv : ∀ s b, inv s → inv (f s b)) (hne : ∀ s b, inv s → b ≠ a → view (f s b) = view s)
    {s : State} (hs : inv s) : ∃ t : State, inv t ∧ view t = view s ∧ view (l.foldl f s) = view (f t a) := by
  obtain ⟨before, after, rfl⟩ := List.append_of_mem ha
  rw [List.nodup_append, List.nodup_cons] at hl
  obtain ⟨-, ⟨hafter, -⟩, hbefore⟩ := hl
  have keeps : ∀ (l : List α) (s : State), a ∉ l → inv s → inv (l.foldl f s) ∧ view (l.foldl f s) = view s := fun l s hl hs =>
    List.foldlRecOn (motive := fun t => inv t ∧ view t = view s) l f ⟨hs, rfl⟩ fun t ht b hb =>
      ⟨hinv t b ht.1, (hne t b ht.1 fun h => hl (h ▸ hb)).trans ht.2⟩
  obtain ⟨hinv', hview⟩ := keeps before s (fun h => hbefore a h a List.mem_cons_self rfl) hs
  refine ⟨_, hinv', hview, ?_⟩
  rw [List.foldl_append, List.foldl_cons, (keeps after _ hafter (hinv _ a hinv')).2]

/-- A fold over entries none of which moves a view keeps it. -/
theorem foldl_keeps_mem {α β : Type} {view : State → β} {f : State → α → State} {l : List α}
    (h : ∀ s, ∀ b ∈ l, view (f s b) = view s) (s : State) : view (l.foldl f s) = view s :=
  List.foldlRecOn (motive := fun t => view t = view s) l f rfl fun t ht b hb => (h t b hb).trans ht

/-! ## The segments of a zone -/

theorem State.mem_zoneSegments {s : State} {n : Nat} {i : Fin 16} : i ∈ s.zoneSegments n ↔ (s.segment i).inZone n = true := by
  simp [zoneSegments, allFin]

theorem State.zoneSegments_nodup (s : State) (n : Nat) : (s.zoneSegments n).Nodup := (List.nodup_finRange 16).filter _

/-- What the rounds over a zone's segments keep of the state they began from: the configuration, and ALC. -/
def State.sameWatch (s t : State) : Prop := t.still = s.still ∧ t.alc = s.alc

theorem State.lockedDown_of_alc_eq {s t : State} (h : t.alc = s.alc) (n : Nat) : t.lockedDown n = s.lockedDown n :=
  lockedDown_of_alc (congrArg AlarmControl.lockdown h) n

/-- R151: the closure of a zone in TRIP, or locked down, shuts each of its segments. -/
theorem State.closeZone_segment {s : State} {n : Nat} {i : Fin 16} (hin : (s.segment i).inZone n = true)
    (hgas : s.combined n = .trip ∨ s.lockedDown n = true) : (s.closeZone n).segment i = (s.segment i).shut := by
  obtain ⟨t, ⟨hstill, halc⟩, hsegment, hact⟩ := foldl_acts_once (view := (State.segment · i)) (inv := s.sameWatch)
    (f := State.closureTest) (s.zoneSegments_nodup n) (mem_zoneSegments.mpr hin)
    (fun t j ht => ⟨(t.closureTest_still j).trans ht.1, (t.closureTest_alc j).trans ht.2⟩)
    (fun t j _ hj => closureTest_segment_ne hj t) ⟨rfl, rfl⟩
  have hgas' : t.combined n = .trip ∨ t.lockedDown n = true := by
    rwa [combined_of_still hstill, lockedDown_of_alc_eq halc]
  calc (s.closeZone n).segment i = (t.closureTest i).segment i := hact
    _ = (t.segment i).shut := closureTest_segment (hsegment ▸ hin) hgas'
    _ = (s.segment i).shut := congrArg Segment.shut hsegment

/-- R151: the closure of a zone touches no segment of another. -/
theorem State.closeZone_segment_other {s : State} {n : Nat} {i : Fin 16} (hout : (s.segment i).inZone n = false) :
    (s.closeZone n).segment i = s.segment i :=
  foldl_keeps_mem (view := (State.segment · i)) (fun s' j hj => closureTest_segment_ne (by
    rintro rfl
    rw [mem_zoneSegments, hout] at hj
    cases hj) s') s

theorem State.reopenPromote_segment_ne {i j : Fin 16} (h : j ≠ i) (s : State) :
    ((s.reopenTest j).promote j).segment i = s.segment i := by
  rw [promote, promoteFor_segment_ne h, reopenTest_segment_ne h]

/-- The round of a zone's reopening that concerns one of its segments, from a state with the same zones, ALC and segment. -/
theorem State.reopenZone_round {s : State} {n : Nat} {i : Fin 16} (hin : (s.segment i).inZone n = true) :
    ∃ t : State, s.sameWatch t ∧ t.segment i = s.segment i
      ∧ (s.reopenZone n).segment i = ((t.reopenTest i).promote i).segment i :=
  foldl_acts_once (view := (State.segment · i)) (s.zoneSegments_nodup n) (mem_zoneSegments.mpr hin)
    (fun t j ht => ⟨by simpa using ht.1, by simpa using ht.2⟩) (fun t j _ hj => reopenPromote_segment_ne hj t) ⟨rfl, rfl⟩

/-- R152: the reopening of a zone reopens each of its segments that may reopen. -/
theorem State.reopenZone_segment {s : State} {n : Nat} {i : Fin 16} (hin : (s.segment i).inZone n = true) :
    ((s.reopenZone n).segment i).bare = (s.segment i).bare.reopened (s.mayReopen n) := by
  obtain ⟨t, ⟨hstill, halc⟩, hsegment, hact⟩ := reopenZone_round hin
  have hmay : t.mayReopen n = s.mayReopen n := by
    rw [mayReopen_eq, mayReopen_eq, combined_of_still hstill, policy_of_still hstill, lockedDown_of_alc_eq halc]
  rw [hact, promote, promoteFor_segment_bare, reopenTest_segment (hsegment ▸ hin), hmay, hsegment]

/-- R152, R145: in a zone in TRIP nothing reopens, and no truck is promoted. -/
theorem State.reopenZone_segment_trip {s : State} {n : Nat} {i : Fin 16} (hin : (s.segment i).inZone n = true)
    (htrip : s.combined n = .trip) : (s.reopenZone n).segment i = s.segment i := by
  obtain ⟨t, ⟨hstill, -⟩, hsegment, hact⟩ := reopenZone_round hin
  have hzone : (t.segment i).zone = n := by
    rw [hsegment]
    simp only [Segment.inZone, Bool.and_eq_true, beq_iff_eq] at hin
    exact hin.2
  have htrip' : t.combined (t.segment i).zone = .trip := by rw [hzone, combined_of_still hstill, htrip]
  have hshut : t.reopenTest i = t := by simp [reopenTest, mayReopen, htrip']
  rw [hact, hshut, promote, promoteFor_trip htrip', hsegment]

/-- R152: the reopening of a zone touches no segment of another. -/
theorem State.reopenZone_segment_other {s : State} {n : Nat} {i : Fin 16} (hout : (s.segment i).inZone n = false) :
    (s.reopenZone n).segment i = s.segment i :=
  foldl_keeps_mem (view := (State.segment · i)) (fun s' j hj => reopenPromote_segment_ne (by
    rintro rfl
    rw [mem_zoneSegments, hout] at hj
    cases hj) s') s

/-! ## The segments of a zone under its lockdown -/

/-- R151, R152, R164: what a used segment does as its zone's lockdown goes from `was` to `now`, the zone being in the state `c` and
`may` saying whether that state and the policy let it reopen. -/
structure Segment.Follows (c : ZState) (may was now : Bool) (g g' : Segment) : Prop where
  same : was = now → g' = g
  rise : was = false → now = true → g' = g.shut
  fall : was = true → now = false → g'.bare = g.bare.reopened may
  fallTrip : was = true → now = false → c = .trip → g' = g

/-- What a used segment of zone `n` does between two states, as the zone's lockdown goes from the one's to the other's. -/
def State.segmentFollows (n : Nat) (i : Fin 16) (s t : State) : Prop :=
  (s.segment i).Follows (s.combined n) (reopens (s.combined n) (s.policy n)) (s.lockedDown n) (t.lockedDown n) (t.segment i)

theorem State.lockdownReport_segment_other {s : State} {m : Nat} {i : Fin 16} (hout : (s.segment i).inZone m = false)
    (old new : Nat) : (s.lockdownReport m old new).segment i = s.segment i := by
  simp only [lockdownReport]
  split
  · exact closeZone_segment_other hout
  · split
    · exact reopenZone_segment_other hout
    · rfl

@[simp] theorem State.lockdownReport_alc (s : State) (n old new : Nat) : (s.lockdownReport n old new).alc = s.alc := by
  simp only [lockdownReport]
  split
  · simp
  · split <;> simp

/-- R164: the report of a zone's count to HLC, once the count stands at its new value. -/
theorem State.lockdownReport_follows {s : State} {n : Nat} {i : Fin 16} {old new : Nat} (hin : (s.segment i).inZone n = true)
    (hnew : s.lockedDown n = (new != 0)) :
    (s.segment i).Follows (s.combined n) (reopens (s.combined n) (s.policy n)) (old != 0) (new != 0)
      ((s.lockdownReport n old new).segment i) := by
  constructor
  · intro h
    have hrise : ¬(old = 0 ∧ new ≠ 0) := by rintro ⟨rfl, h0⟩; simp_all
    have hfall : ¬(old ≠ 0 ∧ new = 0) := by rintro ⟨h0, rfl⟩; simp_all
    rw [lockdownReport, if_neg hrise, if_neg hfall]
  · intro hold hnow
    have hrise : old = 0 ∧ new ≠ 0 := by simpa using And.intro hold hnow
    rw [lockdownReport, if_pos hrise]
    exact closeZone_segment hin (.inr (hnew.trans hnow))
  · intro hold hnow
    have hfall : old ≠ 0 ∧ new = 0 := by simpa using And.intro hold hnow
    rw [lockdownReport, if_neg (by omega), if_pos hfall, reopenZone_segment hin, mayReopen_eq, hnew, hnow]
    rfl
  · intro hold hnow htrip
    have hfall : old ≠ 0 ∧ new = 0 := by simpa using And.intro hold hnow
    rw [lockdownReport, if_neg (by omega), if_pos hfall, reopenZone_segment_trip hin htrip]

theorem Segment.inZone_unique {g : Segment} {n m : Nat} (h : g.inZone n = true) (hne : m ≠ n) : g.inZone m = false := by
  simp only [inZone, Bool.and_eq_true, beq_iff_eq] at h
  simp [inZone, h.2, hne.symm]

@[simp] theorem State.lockdownRecompute_alc (s : State) : s.lockdownRecompute.alc
    = { s.alc with lockdown := vgen fun z => s.alc.lockCount (z.val + 1) } :=
  foldl_keeps State.alc _ (by simp) _ _

/-- R164: the counts recomputed, one used segment of one zone follows its zone's count. -/
theorem State.lockdownRecompute_follows {s : State} {z : Fin 31} {i : Fin 16} (hin : (s.segment i).inZone (z.val + 1) = true) :
    segmentFollows (z.val + 1) i s s.lockdownRecompute := by
  let counted := s.setAlc { s.alc with lockdown := vgen fun z => s.alc.lockCount (z.val + 1) }
  let report (t : State) (y : Fin 31) := t.lockdownReport (y.val + 1) s.alc.lockdown[y] counted.alc.lockdown[y]
  have hcounted : counted.still = s.still := setAlc_still rfl
  have hinZone : ∀ t : State, counted.sameWatch t → (t.segment i).inZone (z.val + 1) = true := fun t ht =>
    (Segment.inZone_of_still (segment_still_of_still (ht.1.trans hcounted) i) _).trans hin
  obtain ⟨t, ht, hsegment, hact⟩ := foldl_acts_once (view := (State.segment · i)) (inv := counted.sameWatch) (f := report)
    (List.nodup_finRange 31) (List.mem_finRange z)
    (fun t y ht => ⟨(t.lockdownReport_still ..).trans ht.1, (t.lockdownReport_alc ..).trans ht.2⟩)
    (fun t y ht hy => lockdownReport_segment_other (Segment.inZone_unique (hinZone t ht) (by
      simpa [Fin.ext_iff] using hy)) _ _) ⟨rfl, rfl⟩
  have hnew : t.lockedDown (z.val + 1) = (counted.alc.lockdown[z] != 0) := by rw [lockedDown_succ, ht.2]
  have hlast : s.lockdownRecompute.lockedDown (z.val + 1) = (counted.alc.lockdown[z] != 0) := by
    rw [lockedDown_succ, lockdownRecompute_alc]; rfl
  have hfollows := lockdownReport_follows (old := s.alc.lockdown[z]) (hinZone t ht) hnew
  have hstill := ht.1.trans hcounted
  rw [combined_of_still hstill, policy_of_still hstill, hsegment] at hfollows
  rw [segmentFollows, hlast, lockedDown_succ]
  exact (congrArg (Segment.Follows _ _ _ _ _) hact).mpr hfollows

end Sys2Proof.Machine
end

section
/-! R158 to R166: what raising and clearing an alarm condition, and all that follows from it, does to the list, to the lockdown counts
and to the segments of a zone. -/

namespace Sys2Proof.Machine

/-! ## What an announcement leaves -/

/-- An alarm entry but for DUE, which the pacer sets and clears. -/
def Alarm.undue (e : Alarm) : Alarm := { e with due := false }

/-- The state but for the traffic and the pacer: what announcements leave. -/
def State.unannounced (s : State) : State :=
  { s.quiet with alc := { s.alc with alarms := s.alc.alarms.map Alarm.undue, gapDue := none } }

theorem State.unannounced_of_quiet {s t : State} (h : t.quiet = s.quiet) : t.unannounced = s.unannounced := by
  rw [unannounced, unannounced, alc_of_quiet h, h]

theorem AlarmControl.put_due (a : AlarmControl) (e : Alarm) (due : Bool) :
    (a.put e { e with due }).alarms.map Alarm.undue = a.alarms.map Alarm.undue := by
  simp only [put, List.map_map]
  refine List.map_congr_left fun x _ => ?_
  simp only [Function.comp_apply]
  split
  · rename_i h; subst h; rfl
  · rfl

theorem State.setAlc_put_due (s : State) (e : Alarm) (due : Bool) :
    (s.setAlc (s.alc.put e { e with due })).unannounced = s.unannounced := by
  have h := s.alc.put_due e due
  simp only [unannounced, setAlc_alc, h]
  rfl

@[simp] theorem State.announceFailed_unannounced (s : State) (n : Nat) : (s.announceFailed n).unannounced = s.unannounced := by
  simp only [announceFailed]
  split
  · split
    · rfl
    · exact setAlc_put_due ..
  · rfl

@[simp] theorem State.originate_unannounced (s : State) (d : Frame) (o : Origin) :
    (s.originate d o).2.unannounced = s.unannounced := unannounced_of_quiet (by simp)

@[simp] theorem State.announce_unannounced (s : State) (e : Alarm) : (s.announce e).unannounced = s.unannounced := by
  simp only [announce]
  rw [foldl_keeps State.unannounced]
  · exact setAlc_put_due ..
  · intro s a
    split <;> simp

@[simp] theorem State.offerPacer_unannounced (s : State) : s.offerPacer.unannounced = s.unannounced := by
  simp only [offerPacer]
  split
  · split
    · exact (announce_unannounced ..).trans rfl
    · rfl
  · rfl

@[simp] theorem State.offerPacer_hlc (s : State) : s.offerPacer.hlc = s.hlc :=
  (congrArg State.hlc s.offerPacer_unannounced :)

@[simp] theorem State.offerPacer_lockdown (s : State) : s.offerPacer.alc.lockdown = s.alc.lockdown :=
  (congrArg (fun x : State => x.alc.lockdown) s.offerPacer_unannounced :)

theorem State.offerPacer_undue (s : State) : s.offerPacer.alc.alarms.map Alarm.undue = s.alc.alarms.map Alarm.undue :=
  (congrArg (fun x : State => x.alc.alarms) s.offerPacer_unannounced :)

/-! ## A list of which conditions have cleared -/

/-- What no clearing changes of an entry that stays: its condition, its zone and its action. -/
def Alarm.place (e : Alarm) : AlarmKind × Nat × Nat × Fin 16 := (e.kind, e.source, e.zone, e.action)

/-- The entries that neither a condition of kind `k` nor a RELAY_FAULT holds, DUE apart. -/
def AlarmControl.others (a : AlarmControl) (k : AlarmKind) : List Alarm :=
  (a.alarms.filter fun e => e.kind != k && e.kind != .relayFault).map Alarm.undue

/-- R161: conditions of kind `k`, and of RELAY_FAULT, have cleared at most: no entry has come, and the others stand. -/
structure AlarmControl.Recedes (k : AlarmKind) (a b : AlarmControl) : Prop where
  places : (b.alarms.map Alarm.place).Sublist (a.alarms.map Alarm.place)
  others : b.others k = a.others k

namespace AlarmControl

theorem Recedes.refl (k : AlarmKind) (a : AlarmControl) : a.Recedes k a := ⟨List.Sublist.refl _, rfl⟩

theorem Recedes.trans {k : AlarmKind} {a b c : AlarmControl} (h : a.Recedes k b) (h' : b.Recedes k c) : a.Recedes k c :=
  ⟨h'.places.trans h.places, h'.others.trans h.others⟩

theorem others_eq_of_undue {a b : AlarmControl} (h : b.alarms.map Alarm.undue = a.alarms.map Alarm.undue) (k : AlarmKind) :
    b.others k = a.others k := by
  have hfilter : ∀ x : AlarmControl, x.others k
      = (x.alarms.map Alarm.undue).filter fun e => e.kind != k && e.kind != .relayFault := fun x => by
    rw [List.filter_map]; rfl
  rw [hfilter, hfilter, h]

theorem Recedes.of_undue {k : AlarmKind} {a b : AlarmControl} (h : b.alarms.map Alarm.undue = a.alarms.map Alarm.undue) :
    a.Recedes k b := by
  have hplace : ∀ x : AlarmControl, x.alarms.map Alarm.place = (x.alarms.map Alarm.undue).map Alarm.place := fun x => by
    rw [List.map_map]; rfl
  exact ⟨by rw [hplace b, hplace a, h], others_eq_of_undue h k⟩

theorem Recedes.of_alarms {k : AlarmKind} {a b : AlarmControl} (h : b.alarms = a.alarms) : a.Recedes k b :=
  .of_undue (by rw [h])

/-- What clearing RELAY_FAULT conditions does is within what clearing others too would do. -/
theorem Recedes.weaken {k : AlarmKind} {a b : AlarmControl} (h : a.Recedes .relayFault b) : a.Recedes k b := by
  refine ⟨h.places, ?_⟩
  have hfilter : ∀ x : AlarmControl, x.others k = (x.others .relayFault).filter fun e => e.kind != k := fun x => by
    simp only [AlarmControl.others, List.filter_map, List.filter_filter, Bool.and_self]
    rfl
  rw [hfilter, hfilter, h.others]

theorem Recedes.length_le {k : AlarmKind} {a b : AlarmControl} (h : a.Recedes k b) : b.alarms.length ≤ a.alarms.length := by
  simpa using h.places.length_le

/-- The condition that an alarm entry lists. -/
def keys (a : AlarmControl) : List (AlarmKind × Nat) := a.alarms.map fun e => (e.kind, e.source)

theorem Recedes.keys_nodup {k : AlarmKind} {a b : AlarmControl} (h : a.Recedes k b) (ha : a.keys.Nodup) : b.keys.Nodup := by
  have hkeys : ∀ x : AlarmControl, x.keys = (x.alarms.map Alarm.place).map fun p => (p.1, p.2.1) := fun x => by
    rw [List.map_map]; rfl
  rw [hkeys] at ha ⊢
  exact ha.sublist (h.places.map _)

theorem holdsActive_others {k k' : AlarmKind} (hk : k' ≠ k) (hr : k' ≠ .relayFault) (a : AlarmControl) (n : Nat) :
    a.holdsActive k' n = (a.others k).any fun e => e.kind == k' && e.source == n && e.active := by
  rw [holdsActive, others, List.any_map, List.any_filter]
  refine congrArg a.alarms.any (funext fun e => ?_)
  by_cases h : e.kind = k'
  · simp [Alarm.undue, h, hk, hr]
  · simp [Alarm.undue, h]

theorem Recedes.holdsActive {k k' : AlarmKind} {a b : AlarmControl} (h : a.Recedes k b) (hk : k' ≠ k) (hr : k' ≠ .relayFault)
    (n : Nat) : b.holdsActive k' n = a.holdsActive k' n := by
  rw [holdsActive_others hk hr, holdsActive_others hk hr, h.others]

/-! ## R161: a condition that clears -/

theorem find_some {a : AlarmControl} {k : AlarmKind} {n : Nat} {e : Alarm} (h : a.find k n = some e) :
    e ∈ a.alarms ∧ e.kind = k ∧ e.source = n := by
  have hkey := List.find?_some h
  simp only [Bool.and_eq_true, beq_iff_eq] at hkey
  exact ⟨List.mem_of_find?_eq_some h, hkey⟩

/-- An entry that a filter leaves out may go without its notice. -/
theorem filter_erase_out {p : Alarm → Bool} {e : Alarm} (he : p e = false) (l : List Alarm) :
    (l.erase e).filter p = l.filter p := by
  induction l with
  | nil => rfl
  | cons x l ih =>
    by_cases hx : x = e
    · simp [hx, he]
    · rw [List.erase_cons_tail (by simpa using hx), List.filter_cons, List.filter_cons, ih]

/-- An entry that a filter leaves out may change without its notice, if the filter leaves it out still. -/
theorem filter_put_out {p : Alarm → Bool} {e e' : Alarm} (he : p e = false) (he' : p e' = false) (l : List Alarm) :
    (l.map fun x => if x = e then e' else x).filter p = l.filter p := by
  induction l with
  | nil => rfl
  | cons x l ih =>
    rw [List.map_cons, List.filter_cons, List.filter_cons, ih]
    by_cases hx : x = e <;> simp [hx, he, he']

theorem drop_recedes {a : AlarmControl} {e : Alarm} {k : AlarmKind} (he : e.kind = k) : a.Recedes k (a.drop e) :=
  ⟨List.erase_sublist.map _, congrArg (List.map Alarm.undue) (filter_erase_out (by simp [he]) _)⟩

theorem put_recedes {a : AlarmControl} {e e' : Alarm} {k : AlarmKind} (he : e.kind = k) (hplace : e'.place = e.place) :
    a.Recedes k (a.put e e') := by
  have hkind : e'.kind = k := (congrArg (·.1) hplace).trans he
  have hplaces : (a.put e e').alarms.map Alarm.place = a.alarms.map Alarm.place := by
    rw [put, List.map_map]
    refine List.map_congr_left fun x _ => ?_
    by_cases hx : x = e <;> simp [hx, hplace]
  exact ⟨hplaces ▸ List.Sublist.refl _,
    congrArg (List.map Alarm.undue) (filter_put_out (by simp [he]) (by simp [hkind]) _)⟩

theorem cleared_recedes (a : AlarmControl) (k : AlarmKind) (n : Nat) : a.Recedes k (a.cleared k n) := by
  simp only [cleared]
  split
  · rename_i e hfind
    obtain ⟨-, hkind, -⟩ := find_some hfind
    split
    · exact .refl k a
    · split
      · exact drop_recedes hkind
      · exact put_recedes hkind rfl
  · exact .refl k a

/-- Of the entries of a list with one entry for each condition, the one found is the condition's. -/
theorem eq_of_find {a : AlarmControl} (h : a.keys.Nodup) {k : AlarmKind} {n : Nat} {e x : Alarm} (hfind : a.find k n = some e)
    (hx : x ∈ a.alarms) (hkind : x.kind = k) (hsource : x.source = n) : x = e := by
  obtain ⟨he, hkind', hsource'⟩ := find_some hfind
  exact List.inj_on_of_nodup_map h hx he (by rw [hkind, hsource, hkind', hsource'])

theorem holdsActive_eq_false {a : AlarmControl} {k : AlarmKind} {n : Nat} :
    a.holdsActive k n = false ↔ ∀ e ∈ a.alarms, e.kind = k → e.source = n → e.active = false := by
  simp [AlarmControl.holdsActive]

theorem holdsActive_eq_true {a : AlarmControl} {k : AlarmKind} {n : Nat} :
    a.holdsActive k n = true ↔ ∃ e ∈ a.alarms, e.kind = k ∧ e.source = n ∧ e.active = true := by
  simp [AlarmControl.holdsActive, and_assoc]

/-- R161: once it has cleared, a condition that one entry at most lists is not active. -/
theorem cleared_holdsActive {a : AlarmControl} (h : a.keys.Nodup) (k : AlarmKind) (n : Nat) :
    (a.cleared k n).holdsActive k n = false := by
  have hnodup : a.alarms.Nodup := h.of_map _
  rw [holdsActive_eq_false]
  intro x hx hkind hsource
  simp only [cleared] at hx
  split at hx
  · rename_i e hfind
    split at hx
    · rename_i hactive
      rw [eq_of_find h hfind hx hkind hsource]
      simpa using hactive
    · split at hx
      · obtain ⟨hne, hmem⟩ := (List.Nodup.mem_erase_iff hnodup).mp hx
        exact absurd (eq_of_find h hfind hmem hkind hsource) hne
      · obtain ⟨y, hy, rfl⟩ := List.mem_map.mp hx
        split at hkind <;> rename_i hye
        · simp [hye]
        · rw [if_neg hye] at hsource
          exact absurd (eq_of_find h hfind hy hkind hsource) hye
  · rename_i hfind
    have := List.find?_eq_none.mp hfind x hx
    simp [hkind, hsource] at this

end AlarmControl

/-! ## What follows a change of the list -/

@[simp] theorem State.masksRecompute_alc (s : State) : s.masksRecompute.alc = s.alc := rfl
@[simp] theorem State.masksRecompute_hlc (s : State) : s.masksRecompute.hlc = s.hlc := rfl

@[simp] theorem State.relayRecompute_alc (s : State) (k : Fin 4) : (s.relayRecompute k).2.alc = s.alc := by
  simp only [relayRecompute]; split <;> rfl

@[simp] theorem State.relayRecompute_hlc (s : State) (k : Fin 4) : (s.relayRecompute k).2.hlc = s.hlc := by
  simp only [relayRecompute]; split <;> rfl

@[simp] theorem State.relaysRecompute_alc (s : State) (c : Relay → Bool) : (s.relaysRecompute c).2.alc = s.alc := by
  simp only [relaysRecompute]
  refine foldl_keeps_snd State.alc _ (fun acc k => ?_) _ _
  split <;> simp

@[simp] theorem State.relaysRecompute_hlc (s : State) (c : Relay → Bool) : (s.relaysRecompute c).2.hlc = s.hlc := by
  simp only [relaysRecompute]
  refine foldl_keeps_snd State.hlc _ (fun acc k => ?_) _ _
  split <;> simp

@[simp] theorem State.severityRecompute_hlc (s : State) : s.severityRecompute.hlc = s.hlc := by
  simp only [severityRecompute, apply_ite State.hlc, masksRecompute_hlc, ite_self]
  rw [foldl_keeps State.hlc _ (by simp)]
  simp

@[simp] theorem AlarmControl.cleared_lockdown (a : AlarmControl) (k : AlarmKind) (n : Nat) :
    (a.cleared k n).lockdown = a.lockdown := by
  simp only [cleared]
  split
  · split
    · rfl
    · split <;> rfl
  · rfl

@[simp] theorem State.severityRecompute_lockdown (s : State) : s.severityRecompute.alc.lockdown = s.alc.lockdown := by
  simp only [severityRecompute, apply_ite State.alc, masksRecompute_alc, ite_self]
  rw [foldl_keeps (fun x : State => x.alc.lockdown) _ (by simp)]
  simp

/-- R165: the flags move no entry; on the way RELAY_FAULT conditions may clear. -/
theorem State.severityRecompute_recedes (s : State) : s.alc.Recedes .relayFault s.severityRecompute.alc := by
  simp only [severityRecompute, apply_ite State.alc, masksRecompute_alc, ite_self]
  refine List.foldlRecOn (motive := fun t : State => s.alc.Recedes .relayFault t.alc) _ _ ?_ fun t ht k _ =>
    ht.trans (t.alc.cleared_recedes .relayFault (k.val + 1))
  rw [relaysRecompute_alc]
  exact .of_alarms rfl

theorem State.driveOutputs_recedes (s : State) : s.alc.Recedes .relayFault s.driveOutputs.alc := by
  refine AlarmControl.Recedes.trans ?_ (severityRecompute_recedes _)
  rw [lockdownRecompute_alc, masksRecompute_alc]
  exact .of_alarms rfl

theorem State.offerPacer_recedes (s : State) (k : AlarmKind) : s.alc.Recedes k s.offerPacer.alc := .of_undue s.offerPacer_undue

/-- R164: once the outputs are driven the counts stand at the list's. -/
theorem State.driveOutputs_lockdown (s : State) :
    s.driveOutputs.alc.lockdown = vgen fun z => s.alc.lockCount (z.val + 1) := by
  simp [driveOutputs]

theorem State.segment_of_hlc {s t : State} (h : t.hlc = s.hlc) (i : Fin 16) : t.segment i = s.segment i := by
  rw [segment, segment, h]

/-- A segment that follows its zone's lockdown does so between any two states of the same standing. -/
theorem State.segmentFollows_congr {n : Nat} {i : Fin 16} {s s' t t' : State} (h : segmentFollows n i s t)
    (hstill : s'.still = s.still) (hhlc : s'.hlc = s.hlc) (hlock : s'.alc.lockdown = s.alc.lockdown)
    (hhlc' : t'.hlc = t.hlc) (hlock' : t'.alc.lockdown = t.alc.lockdown) : segmentFollows n i s' t' := by
  rw [segmentFollows] at h ⊢
  rwa [combined_of_still hstill, policy_of_still hstill, lockedDown_of_alc hlock, lockedDown_of_alc hlock',
    segment_of_hlc hhlc, segment_of_hlc hhlc']

/-- R163 to R165: of what follows a change of the list, a used segment sees its zone's lockdown alone. -/
theorem State.driveOutputs_follows {s : State} {z : Fin 31} {i : Fin 16} (hin : (s.segment i).inZone (z.val + 1) = true) :
    segmentFollows (z.val + 1) i s s.driveOutputs := by
  have hfollows := lockdownRecompute_follows (s := s.masksRecompute) (by rwa [segment_of_hlc s.masksRecompute_hlc])
  rw [driveOutputs]
  exact segmentFollows_congr hfollows s.masksRecompute_still.symm s.masksRecompute_hlc.symm
    (congrArg AlarmControl.lockdown s.masksRecompute_alc.symm) (severityRecompute_hlc _) (severityRecompute_lockdown _)

/-- A change of the list, the outputs driven and the pacer offered it: a used segment sees its zone's lockdown alone. -/
theorem State.listChange_follows {s listed : State} {z : Fin 31} {i : Fin 16} (hin : (s.segment i).inZone (z.val + 1) = true)
    (hstill : listed.still = s.still) (hhlc : listed.hlc = s.hlc) (hlock : listed.alc.lockdown = s.alc.lockdown) :
    segmentFollows (z.val + 1) i s listed.driveOutputs.offerPacer :=
  segmentFollows_congr (driveOutputs_follows (by rwa [segment_of_hlc hhlc])) hstill.symm hhlc.symm hlock.symm
    (offerPacer_hlc _) (offerPacer_lockdown _)

/-! ## R159, R160: a condition that is raised -/

theorem mem_insertAlarm {a x : Alarm} {l : List Alarm} : x ∈ insertAlarm a l ↔ x = a ∨ x ∈ l := by
  induction l with
  | nil => simp [insertAlarm]
  | cons b l ih =>
    rw [insertAlarm]
    split
    · simp only [List.mem_cons, ih]; tauto
    · simp

@[simp] theorem State.listAlarm_hlc (s : State) (r : Raise) : (s.listAlarm r).hlc = s.hlc := by
  simp only [listAlarm]
  split
  · rfl
  · split
    · rfl
    · split
      · split <;> rfl
      · rfl

@[simp] theorem State.listAlarm_lockdown (s : State) (r : Raise) : (s.listAlarm r).alc.lockdown = s.alc.lockdown := by
  simp only [listAlarm]
  split
  · rfl
  · split
    · rfl
    · split
      · split <;> rfl
      · rfl

/-- R159: a raise finds its condition's entry, or a place for a new one unless the list is full, and the condition is active. -/
theorem State.listAlarm_holdsActive {s : State} (h : s.alc.alarms.length < 32) (r : Raise) :
    (s.listAlarm r).alc.holdsActive r.kind r.source = true := by
  rw [AlarmControl.holdsActive_eq_true]
  simp only [listAlarm]
  split
  · rename_i e hfind
    obtain ⟨-, hkind, hsource⟩ := AlarmControl.find_some hfind
    exact ⟨_, mem_insertAlarm.mpr (.inl rfl), hkind, hsource, rfl⟩
  · rw [if_pos h]
    exact ⟨_, mem_insertAlarm.mpr (.inl rfl), rfl, rfl, rfl⟩

/-- R159, R160: an entry after a raise is the condition's own or stood before. -/
theorem State.mem_listAlarm {s : State} {r : Raise} {e : Alarm} (h : e ∈ (s.listAlarm r).alc.alarms) :
    (e.kind = r.kind ∧ e.source = r.source) ∨ e ∈ s.alc.alarms := by
  simp only [listAlarm] at h
  split at h
  · rename_i old hfind
    obtain ⟨-, hkind, hsource⟩ := AlarmControl.find_some hfind
    rcases mem_insertAlarm.mp h with rfl | h
    · exact .inl ⟨hkind, hsource⟩
    · exact .inr (List.mem_of_mem_erase h)
  · split at h
    · rcases mem_insertAlarm.mp h with rfl | h
      · exact .inl ⟨rfl, rfl⟩
      · exact .inr h
    · split at h
      · rename_i old overflow _
        have h : e ∈ ((s.alc.drop old).insertNew r s.time).alarms := by
          cases overflow <;> exact h
        rcases mem_insertAlarm.mp h with rfl | h
        · exact .inl ⟨rfl, rfl⟩
        · exact .inr (List.mem_of_mem_erase h)
      · exact .inr h

/-- R159: a raise makes no other condition active. -/
theorem State.listAlarm_holdsActive_other {s : State} {r : Raise} {k : AlarmKind} {n : Nat} (hk : r.kind ≠ k)
    (h : s.alc.holdsActive k n = false) : (s.listAlarm r).alc.holdsActive k n = false := by
  rw [AlarmControl.holdsActive_eq_false] at h ⊢
  intro e he hkind
  rcases mem_listAlarm he with ⟨hr, -⟩ | he
  · exact absurd (hr.symm.trans hkind) hk
  · exact h e he hkind

/-- What follows the list's change in a raise or a clear. -/
theorem State.driven_recedes (s : State) : s.alc.Recedes .relayFault s.driveOutputs.offerPacer.alc :=
  (driveOutputs_recedes s).trans (offerPacer_recedes _ _)

/-- R159: a raise lists its condition, drives the outputs and offers the list to the pacer. -/
theorem State.raiseAlarm_eq (s : State) (k : AlarmKind) (n z : Nat) (d : Option DropRef) :
    ∃ r : Raise, r.kind = k ∧ r.source = n ∧ s.raiseAlarm k n z d = (s.listAlarm r).driveOutputs.offerPacer := by
  rw [raiseAlarm]
  refine ⟨_, ?_, ?_, rfl⟩ <;> rfl

theorem State.raiseAlarm_holdsActive {s : State} (h : s.alc.alarms.length < 32) {k : AlarmKind} (hk : k ≠ .relayFault) (n z : Nat)
    (d : Option DropRef) : (s.raiseAlarm k n z d).alc.holdsActive k n = true := by
  obtain ⟨r, rfl, rfl, heq⟩ := s.raiseAlarm_eq k n z d
  rw [heq, (driven_recedes (s.listAlarm r)).holdsActive hk hk]
  exact listAlarm_holdsActive h r

theorem State.raiseAlarm_holdsActive_other {s : State} {k k' : AlarmKind} {n' : Nat} (hk : k ≠ k') (hr : k' ≠ .relayFault)
    (h : s.alc.holdsActive k' n' = false) (n z : Nat) (d : Option DropRef) :
    (s.raiseAlarm k n z d).alc.holdsActive k' n' = false := by
  obtain ⟨r, rfl, rfl, heq⟩ := s.raiseAlarm_eq k n z d
  rw [heq, (driven_recedes (s.listAlarm r)).holdsActive hr hr]
  exact listAlarm_holdsActive_other hk h

theorem State.raiseAlarm_follows {s : State} {z : Fin 31} {i : Fin 16} (hin : (s.segment i).inZone (z.val + 1) = true)
    (k : AlarmKind) (n zone : Nat) (d : Option DropRef) : segmentFollows (z.val + 1) i s (s.raiseAlarm k n zone d) := by
  obtain ⟨r, -, -, heq⟩ := s.raiseAlarm_eq k n zone d
  rw [heq]
  exact listChange_follows hin (s.listAlarm_still r) (s.listAlarm_hlc r) (s.listAlarm_lockdown r)

/-! ## R161: a condition that clears -/

theorem State.segmentFollows_refl (n : Nat) (i : Fin 16) (s : State) : segmentFollows n i s s where
  same _ := rfl
  rise h h' := by rw [h] at h'; cases h'
  fall h h' := by rw [h] at h'; cases h'
  fallTrip _ _ _ := rfl

theorem State.clearAlarm_recedes (s : State) (k : AlarmKind) (n : Nat) : s.alc.Recedes k (s.clearAlarm k n).alc := by
  simp only [clearAlarm]
  split
  · exact .refl k _
  · exact (s.alc.cleared_recedes k n).trans (driven_recedes (s.setAlc (s.alc.cleared k n))).weaken

theorem State.clearAlarm_holdsActive {s : State} (h : s.alc.keys.Nodup) {k : AlarmKind} (hk : k ≠ .relayFault) (n : Nat) :
    (s.clearAlarm k n).alc.holdsActive k n = false := by
  have hcleared := AlarmControl.cleared_holdsActive h k n
  simp only [clearAlarm]
  split
  · rename_i hsame
    rwa [hsame] at hcleared
  · exact ((driven_recedes (s.setAlc (s.alc.cleared k n))).holdsActive hk hk n).trans hcleared

theorem State.clearAlarm_follows {s : State} {z : Fin 31} {i : Fin 16} (hin : (s.segment i).inZone (z.val + 1) = true)
    (k : AlarmKind) (n : Nat) : segmentFollows (z.val + 1) i s (s.clearAlarm k n) := by
  simp only [clearAlarm]
  split
  · exact segmentFollows_refl _ i s
  · exact listChange_follows hin (setAlc_still (by simp)) rfl (by simp)

/-! ## The lockdown counts -/

/-- R164, R117: the lockdown counts stand as the list gives them, and no RELAY_FAULT entry counts toward a zone's. -/
structure AlarmControl.Counted (a : AlarmControl) : Prop where
  count : a.lockdown = vgen fun z => a.lockCount (z.val + 1)
  fault : ∀ e ∈ a.alarms, e.kind = .relayFault → e.zone = 0

/-- The place of an entry that counts toward a zone's lockdown (R164). -/
def AlarmControl.counts (a : AlarmControl) (n : Nat) (p : AlarmKind × Nat × Nat × Fin 16) : Bool :=
  p.2.2.1 == n && a.actions[p.2.2.2].mode == .lockdown

theorem AlarmControl.lockCount_places (a : AlarmControl) (n : Nat) :
    a.lockCount n = (a.alarms.map Alarm.place).countP (a.counts n) := by
  rw [List.countP_map]; rfl

theorem AlarmControl.Recedes.lockCount_le {k : AlarmKind} {a b : AlarmControl} (h : a.Recedes k b)
    (hactions : b.actions = a.actions) (n : Nat) : b.lockCount n ≤ a.lockCount n := by
  have hcounts : b.counts n = a.counts n := funext fun p => by rw [counts, counts, hactions]
  rw [lockCount_places, lockCount_places, hcounts]
  exact h.places.countP_le

theorem AlarmControl.Recedes.fault {k : AlarmKind} {a b : AlarmControl} (h : a.Recedes k b)
    (ha : ∀ e ∈ a.alarms, e.kind = .relayFault → e.zone = 0) : ∀ e ∈ b.alarms, e.kind = .relayFault → e.zone = 0 := by
  intro e he hkind
  obtain ⟨x, hx, hplace⟩ := List.mem_map.mp (h.places.subset (List.mem_map_of_mem (f := Alarm.place) he))
  have hk : x.kind = e.kind := (congrArg (·.1) hplace :)
  have hz : x.zone = e.zone := (congrArg (·.2.2.1) hplace :)
  rw [← hz]
  exact ha x hx (hk.trans hkind)

/-- R164, R117: as RELAY_FAULT entries have zone 0, a zone's count is that of the others. -/
theorem AlarmControl.lockCount_others {a : AlarmControl} (h : ∀ e ∈ a.alarms, e.kind = .relayFault → e.zone = 0) (n : Nat) :
    a.lockCount (n + 1) = ((a.others .relayFault).map Alarm.place).countP (a.counts (n + 1)) := by
  rw [lockCount, others, List.map_map, List.countP_map, List.countP_filter]
  refine List.countP_congr fun e he => ?_
  by_cases hk : e.kind = .relayFault
  · simp [h e he hk, hk]
  · simp [hk, counts, Alarm.place, Alarm.undue]

theorem AlarmControl.Recedes.lockCount_eq {a b : AlarmControl} (h : a.Recedes .relayFault b)
    (hactions : b.actions = a.actions) (ha : ∀ e ∈ a.alarms, e.kind = .relayFault → e.zone = 0) (n : Nat) :
    b.lockCount (n + 1) = a.lockCount (n + 1) := by
  have hcounts : b.counts (n + 1) = a.counts (n + 1) := funext fun p => by rw [counts, counts, hactions]
  rw [lockCount_others ha, lockCount_others (h.fault ha), h.others, hcounts]

/-! ## Clearing under the lockdown counts -/

/-- Where the list stood counted, a clear leaves it counted, and raises no zone's lockdown. -/
theorem State.clearAlarm_counted {s : State} (h : s.alc.Counted) (k : AlarmKind) (n : Nat) :
    (s.clearAlarm k n).alc.Counted ∧ (∀ z : Fin 31, (s.clearAlarm k n).alc.lockdown[z] ≤ s.alc.lockdown[z])
      ∧ (k = .relayFault → (s.clearAlarm k n).alc.lockdown = s.alc.lockdown) := by
  have hactions := actions_of_still (s.clearAlarm_still k n)
  have hfault := (s.clearAlarm_recedes k n).fault h.fault
  have hcleared := s.alc.cleared_recedes k n
  have hcleared_actions : (s.alc.cleared k n).actions = s.alc.actions :=
    (congrArg AlarmControl.actions (s.alc.cleared_still k n) :)
  by_cases hsame : s.alc.cleared k n = s.alc
  · rw [clearAlarm, if_pos hsame]
    exact ⟨h, fun _ => le_refl _, fun _ => rfl⟩
  · have heq : s.clearAlarm k n = (s.setAlc (s.alc.cleared k n)).driveOutputs.offerPacer := if_neg hsame
    have hdriven : (s.alc.cleared k n).Recedes .relayFault (s.clearAlarm k n).alc := 
      heq ▸ driven_recedes (s.setAlc (s.alc.cleared k n))
    have hlockdown : (s.clearAlarm k n).alc.lockdown = vgen fun z => (s.alc.cleared k n).lockCount (z.val + 1) := by
      rw [heq, offerPacer_lockdown, driveOutputs_lockdown, setAlc_alc]
    refine ⟨⟨?_, hfault⟩, fun z => ?_, ?_⟩
    · rw [hlockdown, funext fun z : Fin 31 =>
        hdriven.lockCount_eq (hactions.trans hcleared_actions.symm) (hcleared.fault h.fault) z.val]
    · rw [hlockdown, h.count, Fin.getElem_fin, Fin.getElem_fin, vgen_getElem, vgen_getElem]
      exact hcleared.lockCount_le hcleared_actions _
    · rintro rfl
      rw [hlockdown, h.count, funext fun z : Fin 31 => hcleared.lockCount_eq hcleared_actions h.fault z.val]

/-! ## The permit relays -/

theorem State.relaysRecompute_segment (s : State) (c : Relay → Bool) (i : Fin 16) :
    (s.relaysRecompute c).2.segment i = s.segment i := segment_of_hlc (s.relaysRecompute_hlc c) i

/-- R116, R117: a relay's recomputation clears RELAY_FAULT conditions at most. -/
theorem State.driveRelays_recedes (s : State) (c : Relay → Bool) : s.alc.Recedes .relayFault (s.driveRelays c).alc := by
  simp only [driveRelays]
  refine List.foldlRecOn (motive := fun t : State => s.alc.Recedes .relayFault t.alc) _ _ ?_ fun t ht k _ =>
    ht.trans (t.clearAlarm_recedes .relayFault (k.val + 1))
  rw [relaysRecompute_alc]
  exact .refl _ _

theorem State.inZone_of_still {s t : State} (h : t.still = s.still) {i : Fin 16} {n : Nat}
    (hin : (s.segment i).inZone n = true) : (t.segment i).inZone n = true :=
  (Segment.inZone_of_still (segment_still_of_still h i) n).trans hin

/-- Where the counts stand, the relays' recomputation moves no lockdown, and so no segment. -/
theorem State.driveRelays_counted {s : State} (h : s.alc.Counted) (c : Relay → Bool) {z : Fin 31} {i : Fin 16}
    (hin : (s.segment i).inZone (z.val + 1) = true) :
    (s.driveRelays c).alc.Counted ∧ (s.driveRelays c).alc.lockdown = s.alc.lockdown
      ∧ (s.driveRelays c).segment i = s.segment i := by
  have hstart := relaysRecompute_segment s c i
  simp only [driveRelays]
  refine List.foldlRecOn (motive := fun t : State =>
    t.alc.Counted ∧ t.alc.lockdown = s.alc.lockdown ∧ t.segment i = s.segment i) _ _ ?_ fun t ⟨hcounted, hlock, hsegment⟩ k _ => ?_
  · rw [relaysRecompute_alc]
    exact ⟨h, rfl, hstart⟩
  · obtain ⟨hcounted', -, hlock'⟩ := clearAlarm_counted hcounted .relayFault (k.val + 1)
    have hfollows := clearAlarm_follows (hsegment ▸ hin) .relayFault (k.val + 1)
    exact ⟨hcounted', (hlock' rfl).trans hlock,
      (hfollows.same (lockedDown_of_alc (hlock' rfl) _).symm).trans hsegment⟩

/-! ## The segments of a zone in TRIP -/

theorem Segment.shut_shut (g : Segment) : g.shut.shut = g.shut := by
  by_cases h : g.state = .gasClosed <;> simp [shut, h]

/-- Between two states a used segment has stayed or has been shut. -/
def Segment.StaysOrShuts (g g' : Segment) : Prop := g' = g ∨ g' = g.shut

theorem Segment.StaysOrShuts.trans {g g' g'' : Segment} (h : g.StaysOrShuts g') (h' : g'.StaysOrShuts g'') :
    g.StaysOrShuts g'' := by
  rcases h with rfl | rfl
  · exact h'
  · exact .inr (h'.elim (·) fun h => h.trans g.shut_shut)

/-- R151: while its zone is in TRIP a segment follows the lockdown by being shut, or not at all. -/
theorem Segment.Follows.staysOrShuts {may was now : Bool} {g g' : Segment} (h : g.Follows .trip may was now g') :
    g.StaysOrShuts g' := by
  cases was <;> cases now
  · exact .inl (h.same rfl)
  · exact .inr (h.rise rfl rfl)
  · exact .inl (h.fallTrip rfl rfl rfl)
  · exact .inl (h.same rfl)

/-- What an operation on the alarms does to a segment of a zone in TRIP. -/
def State.TripWatch (i : Fin 16) (s t : State) : Prop :=
  t.still = s.still ∧ (s.segment i).StaysOrShuts (t.segment i)

theorem State.TripWatch.step {s t u : State} {z : Fin 31} {i : Fin 16} (h : TripWatch i s t)
    (htrip : s.combined (z.val + 1) = .trip) (hstill : u.still = t.still) (hfollows : segmentFollows (z.val + 1) i t u) :
    TripWatch i s u := by
  rw [segmentFollows, combined_of_still h.1, htrip] at hfollows
  exact ⟨hstill.trans h.1, h.2.trans hfollows.staysOrShuts⟩

theorem State.driveRelays_tripWatch {s : State} {z : Fin 31} {i : Fin 16} (hin : (s.segment i).inZone (z.val + 1) = true)
    (htrip : s.combined (z.val + 1) = .trip) (c : Relay → Bool) : TripWatch i s (s.driveRelays c) := by
  have hstart : TripWatch i s (s.relaysRecompute c).2 := ⟨by simp, .inl (relaysRecompute_segment s c i)⟩
  simp only [driveRelays]
  exact List.foldlRecOn (motive := TripWatch i s) _ _ hstart fun t ht k _ =>
    ht.step htrip (by simp) (clearAlarm_follows (inZone_of_still ht.1 hin) _ _)

end Sys2Proof.Machine
end

section
/-! R106, R107, R113, R134, R151, R152: the evaluation of a zone does what section 6.6 says of it, from every state. -/

namespace Sys2Proof.Machine

/-! ## R107, R113: the states of a zone, by the spec's words and by the model's -/

theorem Channel.countsAs_trip (x : Channel) : (countsAs x == .trip) = x.countsTrip := by
  simp only [countsAs, countsTrip]
  generalize x.latched = latched, x.computed = computed, x.cfg.failTrips = failTrips
  cases latched <;> cases computed <;> cases failTrips <;> rfl

theorem Channel.countsAs_warn (x : Channel) : (countsAs x == .warn) = x.countsWarn := by
  simp only [countsAs, countsTrip, countsWarn]
  generalize x.latched = latched, x.computed = computed, x.cfg.failTrips = failTrips
  cases latched <;> cases computed <;> cases failTrips <;> rfl

theorem Channel.countsAs_starting (x : Channel) : (countsAs x == .starting) = x.countsStarting := by
  simp only [countsAs, countsTrip, countsStarting]
  generalize x.latched = latched, x.computed = computed, x.cfg.failTrips = failTrips
  cases latched <;> cases computed <;> cases failTrips <;> rfl

theorem State.zoneLocal_eq (s : State) (z : Fin 31) : zoneLocal s z = s.localNow z := by
  have htrip : (fun x => countsAs x == .trip) = Channel.countsTrip := funext Channel.countsAs_trip
  simp only [zoneLocal, htrip, Channel.countsAs_warn, Channel.countsAs_starting]
  rfl

theorem Zone.combine_foldl (rs : List Reporter) (l : ZState) : rs.foldl (fun a r => a.worse r.state.counts) l
    = if l = .trip ∨ rs.any (·.state == .trip) = true then .trip
      else if l = .alert ∨ rs.any (fun r => r.state == .alert || r.state == .stale) = true then .alert else .clear := by
  induction rs generalizing l with
  | nil => cases l <;> rfl
  | cons r rs ih =>
    rw [List.foldl_cons, ih]
    cases l <;> cases hstate : r.state <;> simp [hstate, RepState.counts, ZState.worse]

theorem Zone.zoneCombined_eq (x : Zone) (l : ZState) : zoneCombined x l = x.combine l := by
  cases henabled : x.enabled
  · simp [zoneCombined, combine, henabled]
  · rw [combine, if_pos henabled, combine_foldl, zoneCombined, if_neg (by simp [henabled])]

/-- The zone's GAS_WARN condition, as it is to stand (R113). -/
def State.warnsNow (s : State) (z : Fin 31) : Bool :=
  s.localNow z == .alert && (s.contributors (z.val + 1)).any Channel.countsWarn

theorem State.warnsNow_eq_true {s : State} {z : Fin 31} : s.warnsNow z = true ↔
    zoneLocal s z = .alert ∧ ∃ c ∈ s.channels.toList, c.cfg.enabled = true ∧ c.cfg.zone = z.val + 1
      ∧ c.state ≠ .inhibited ∧ countsAs c = .warn := by
  have hwarn : ∀ c : Channel, c.countsWarn = true ↔ countsAs c = .warn := fun c => by rw [← c.countsAs_warn, beq_iff_eq]
  rw [warnsNow, zoneLocal_eq, Bool.and_eq_true, beq_iff_eq, contributors, List.any_filter, List.any_eq_true]
  simp only [Channel.contributes, Bool.and_eq_true, beq_iff_eq, bne_iff_ne, hwarn, and_assoc]

/-! ## The stages of an evaluation -/

/-- R107, R113: the record that an evaluation gives a zone, before its report. -/
def State.zoneNow (s : State) (z : Fin 31) : Zone :=
  let x := s.zone z
  { x with
    localState := s.localNow z, combined := x.combine (s.localNow z), evaluated := true
    gasWarn := s.warnsNow z }

/-- R106, R107: the zone's record stands, and a local state that has changed is reported. -/
def State.zoneReported (s : State) (z : Fin 31) : State :=
  let t := s.setZone z (s.zoneNow z)
  if (s.zone z).localState ≠ s.localNow z ∧ (s.zone z).enabled then t.sendZoneReport z else t

/-- R113: a transition has reached the other blocks; the first evaluation reaches the permit relays. -/
def State.zoneHanded (s : State) (z : Fin 31) : State :=
  let t := s.zoneReported z
  if (s.zone z).combined ≠ (s.zoneNow z).combined then t.transition z
  else if !(s.zone z).evaluated then t.driveRelays (·.guards z)
  else t

theorem State.evaluate_eq (s : State) (z : Fin 31) : s.evaluate z = (s.zoneHanded z).gasAlarms z (s.zone z) (s.zoneNow z) := rfl

/-- The time of the report that a zone last sent, after an evaluation (R106). -/
def State.sentNow (s : State) (z : Fin 31) : Time :=
  if (s.zone z).localState ≠ s.localNow z ∧ (s.zone z).enabled = true then s.time else (s.zone z).lastSent

theorem State.setZone_setZone (s : State) (z : Fin 31) (x y : Zone) : (s.setZone z x).setZone z y = s.setZone z y := by
  simp [setZone]

/-- R106: the report changes the traffic, and the zone's record the time of its last report. -/
theorem State.zoneReported_quiet (s : State) (z : Fin 31) :
    (s.zoneReported z).quiet = (s.setZone z { s.zoneNow z with lastSent := s.sentNow z }).quiet := by
  by_cases h : (s.zone z).localState ≠ s.localNow z ∧ (s.zone z).enabled = true
  · rw [zoneReported, if_pos h, sendZoneReport, originate_quiet, setZone_zone, setZone_setZone, sentNow, if_pos h]
    rfl
  · rw [zoneReported, if_neg h, sentNow, if_neg h]
    rfl

theorem State.zoneReported_zone (s : State) (z : Fin 31) :
    (s.zoneReported z).zone z = { s.zoneNow z with lastSent := s.sentNow z } := by
  rw [zone_of_still (still_of_quiet (s.zoneReported_quiet z)), setZone_zone]

theorem State.zoneReported_zone_ne (s : State) {z y : Fin 31} (h : y ≠ z) : (s.zoneReported z).zone y = s.zone y := by
  rw [zone_of_still (still_of_quiet (s.zoneReported_quiet z)), setZone_zone_ne s h.symm]

@[simp] theorem State.zoneReported_alc (s : State) (z : Fin 31) : (s.zoneReported z).alc = s.alc :=
  (alc_of_quiet (s.zoneReported_quiet z) :)

@[simp] theorem State.zoneReported_csw (s : State) (z : Fin 31) : (s.zoneReported z).csw = s.csw :=
  (csw_of_still (still_of_quiet (s.zoneReported_quiet z)) :)

@[simp] theorem State.zoneReported_segment (s : State) (z : Fin 31) (i : Fin 16) : (s.zoneReported z).segment i = s.segment i :=
  (segment_of_quiet (s.zoneReported_quiet z) i :)

theorem State.zoneReported_combined (s : State) (z : Fin 31) :
    (s.zoneReported z).combined (z.val + 1) = (s.zoneNow z).combined := by
  rw [combined_succ, zoneReported_zone]

theorem State.policy_succ (s : State) (z : Fin 31) : s.policy (z.val + 1) = (s.zone z).policy := by
  simp [policy, zone?, zoneIx_succ]

theorem State.zoneReported_policy (s : State) (z : Fin 31) : (s.zoneReported z).policy (z.val + 1) = (s.zone z).policy := by
  rw [policy_succ, zoneReported_zone]
  rfl

/-! ## A transition -/

/-- R134: the call switch's part of a transition. -/
def State.escalatedFor (s : State) (z : Fin 31) : State :=
  if (s.zone z).combined = .trip then (s.driveRelays (·.guards z)).escalate (z.val + 1) else s.driveRelays (·.guards z)

theorem State.transition_eq (s : State) (z : Fin 31) : s.transition z
    = ((s.escalatedFor z).haulTransition (z.val + 1)).setAlc { ((s.escalatedFor z).haulTransition (z.val + 1)).alc with
        zoneCopy := ((s.escalatedFor z).haulTransition (z.val + 1)).alc.zoneCopy.set z (s.zone z).combined } := rfl

theorem State.setCsw_circuits_self (s : State) : s.setCsw { s.csw with circuits := s.csw.circuits } = s := rfl

/-- The call switch's part of a transition changes the circuits alone, once the relays are driven. -/
theorem State.escalatedFor_eq (s : State) (z : Fin 31) : s.escalatedFor z = (s.driveRelays (·.guards z)).setCsw { s.csw with
    circuits := if (s.zone z).combined = .trip then escalated (z.val + 1) s.csw.circuits else s.csw.circuits } := by
  have hcsw : (s.driveRelays (·.guards z)).csw = s.csw := csw_of_still (s.driveRelays_still _)
  rw [← hcsw, escalatedFor]
  split
  · rw [escalate]; rfl
  · rw [setCsw_circuits_self]

theorem State.escalatedFor_zones (s : State) (z : Fin 31) : (s.escalatedFor z).zones = s.zones := by
  rw [escalatedFor_eq, setCsw_zones, zones_of_still (s.driveRelays_still _)]

@[simp] theorem State.transition_zones (s : State) (z : Fin 31) : (s.transition z).zones = s.zones := by
  rw [transition_eq, setAlc_zones, zones_of_still (haulTransition_still ..), escalatedFor_zones]

theorem State.transition_csw (s : State) (z : Fin 31) : (s.transition z).csw.circuits
    = if (s.zone z).combined = .trip then escalated (z.val + 1) s.csw.circuits else s.csw.circuits := by
  rw [transition_eq, setAlc_csw, csw_of_still (haulTransition_still ..), escalatedFor_eq]
  rfl

@[simp] theorem State.transition_zoneCopy (s : State) (z : Fin 31) : (s.transition z).alc.zoneCopy[z] = (s.zone z).combined := by
  rw [transition_eq, setAlc_alc]
  simp

theorem State.transition_recedes (s : State) (z : Fin 31) : s.alc.Recedes .relayFault (s.transition z).alc := by
  refine (s.driveRelays_recedes (·.guards z)).trans (.of_alarms ?_)
  rw [transition_eq, setAlc_alc]
  simp [escalatedFor_eq]

theorem State.transition_segment (s : State) (z : Fin 31) (i : Fin 16) :
    (s.transition z).segment i = ((s.escalatedFor z).haulTransition (z.val + 1)).segment i := by
  rw [transition_eq, setAlc_segment]

theorem State.transition_lockdown (s : State) (z : Fin 31) :
    (s.transition z).alc.lockdown = (s.driveRelays (·.guards z)).alc.lockdown := by
  rw [transition_eq, setAlc_alc]
  simp [escalatedFor_eq]

theorem State.escalatedFor_segment (s : State) (z : Fin 31) (i : Fin 16) :
    (s.escalatedFor z).segment i = (s.driveRelays (·.guards z)).segment i := by
  rw [escalatedFor_eq, setCsw_segment]

theorem State.combined_of_zones {s t : State} (h : t.zones = s.zones) (n : Nat) : t.combined n = s.combined n := by
  rw [combined, combined, zone?, zone?, show t.zone = s.zone from funext fun z => by rw [zone, zone, h]]

theorem State.policy_of_zones {s t : State} (h : t.zones = s.zones) (n : Nat) : t.policy n = s.policy n := by
  rw [policy, policy, zone?, zone?, show t.zone = s.zone from funext fun z => by rw [zone, zone, h]]

/-! ## What the stages leave -/

theorem State.zoneHanded_zones (s : State) (z : Fin 31) : (s.zoneHanded z).zones = (s.zoneReported z).zones := by
  rw [zoneHanded]
  split
  · exact transition_zones ..
  · split
    · exact zones_of_still (driveRelays_still ..)
    · rfl

theorem State.zoneHanded_recedes (s : State) (z : Fin 31) : s.alc.Recedes .relayFault (s.zoneHanded z).alc := by
  rw [← s.zoneReported_alc z, zoneHanded]
  split
  · exact transition_recedes ..
  · split
    · exact driveRelays_recedes ..
    · exact .refl _ _

@[simp] theorem State.gasAlarms_still (s : State) (z : Fin 31) (a b : Zone) : (s.gasAlarms z a b).still = s.still := by
  simp [gasAlarms, apply_ite State.still]

theorem State.evaluate_zones (s : State) (z : Fin 31) : (s.evaluate z).zones = (s.zoneReported z).zones := by
  rw [evaluate_eq, zones_of_still (gasAlarms_still ..), zoneHanded_zones]

theorem State.evaluate_zone (s : State) (z : Fin 31) :
    (s.evaluate z).zone z = { s.zoneNow z with lastSent := s.sentNow z } := by
  rw [← zoneReported_zone, zone, zone, evaluate_zones]

theorem State.evaluate_zone_ne (s : State) {z y : Fin 31} (h : y ≠ z) : (s.evaluate z).zone y = s.zone y := by
  rw [← s.zoneReported_zone_ne h, zone, zone, evaluate_zones]

/-- R134: an evaluation escalates the zone's circuits on a transition into TRIP, and changes no circuit otherwise. -/
theorem State.evaluate_circuits (s : State) (z : Fin 31) : (s.evaluate z).csw.circuits
    = if (s.zone z).combined ≠ (s.zoneNow z).combined ∧ (s.zoneNow z).combined = .trip then escalated (z.val + 1) s.csw.circuits
      else s.csw.circuits := by
  rw [evaluate_eq, csw_of_still (gasAlarms_still ..), zoneHanded]
  by_cases hmoved : (s.zone z).combined ≠ (s.zoneNow z).combined
  · rw [if_pos hmoved, transition_csw, zoneReported_csw, zoneReported_zone]
    simp [hmoved]
  · simp only [hmoved, if_false, false_and]
    split
    · rw [csw_of_still (driveRelays_still ..), zoneReported_csw]
    · rw [zoneReported_csw]

/-- R113: ALC has its copy of the state that a zone has gone to. -/
theorem State.evaluate_zoneCopy {s : State} {z : Fin 31} (hmoved : (s.zone z).combined ≠ (s.zoneNow z).combined) :
    (s.evaluate z).alc.zoneCopy[z] = (s.zoneNow z).combined := by
  rw [evaluate_eq, zoneCopy_of_still (gasAlarms_still ..), zoneHanded, if_pos hmoved, transition_zoneCopy, zoneReported_zone]

/-! ## R113: the gas conditions of an evaluation -/

/-- R113: the first part of the gas conditions' changes, in which those that an evaluation ends are cleared. -/
def State.gasCleared (s : State) (z : Fin 31) (was now : Zone) : State :=
  let s := if was.gasWarn && !now.gasWarn then s.clearAlarm .gasWarn (z.val + 1) else s
  if was.localState = .trip ∧ now.localState ≠ .trip then s.clearAlarm .gasTrip (z.val + 1) else s

theorem State.gasAlarms_eq (s : State) (z : Fin 31) (was now : Zone) : s.gasAlarms z was now =
    (let t := s.gasCleared z was now
     let t := if was.localState ≠ .trip ∧ now.localState = .trip then t.raiseAlarm .gasTrip (z.val + 1) (z.val + 1) none else t
     if !was.gasWarn && now.gasWarn then t.raiseAlarm .gasWarn (z.val + 1) (z.val + 1) none else t) := rfl

theorem State.gasCleared_length_le (s : State) (z : Fin 31) (was now : Zone) :
    (s.gasCleared z was now).alc.alarms.length ≤ s.alc.alarms.length := by
  simp only [gasCleared]
  split <;> split
  · exact (clearAlarm_recedes ..).length_le.trans (clearAlarm_recedes ..).length_le
  · exact (clearAlarm_recedes ..).length_le
  · exact (clearAlarm_recedes ..).length_le
  · exact le_refl _

/-- R113: GAS_TRIP is active once the local state has come to TRIP, where the list has room. -/
theorem State.gasAlarms_trip_raised {s : State} {z : Fin 31} {was now : Zone} (hroom : s.alc.alarms.length < 32)
    (hwas : was.localState ≠ .trip) (hnow : now.localState = .trip) (hwarn : now.gasWarn = false) :
    (s.gasAlarms z was now).alc.holdsActive .gasTrip (z.val + 1) = true := by
  simp only [gasAlarms_eq, hwas, hnow, hwarn, Bool.and_false, Bool.false_eq_true, if_false, ne_eq, not_false_eq_true, and_self,
    if_true]
  exact raiseAlarm_holdsActive ((gasCleared_length_le ..).trans_lt hroom) (by decide) _ _ _

/-- R113: GAS_WARN is active once its cause has come, where the list has room. -/
theorem State.gasAlarms_warn_raised {s : State} {z : Fin 31} {was now : Zone} (hroom : s.alc.alarms.length < 32)
    (hwas : was.gasWarn = false) (hnow : now.gasWarn = true) (hlocal : now.localState ≠ .trip) :
    (s.gasAlarms z was now).alc.holdsActive .gasWarn (z.val + 1) = true := by
  simp only [gasAlarms_eq, hwas, hnow, hlocal, and_false, if_false, Bool.not_false, Bool.and_self, if_true]
  exact raiseAlarm_holdsActive ((gasCleared_length_le ..).trans_lt hroom) (by decide) _ _ _

/-- R113: GAS_TRIP is not active once the local state has left TRIP. -/
theorem State.gasAlarms_trip_cleared {s : State} {z : Fin 31} {was now : Zone} (hkeys : s.alc.keys.Nodup)
    (hwas : was.localState = .trip) (hnow : now.localState ≠ .trip) :
    (s.gasAlarms z was now).alc.holdsActive .gasTrip (z.val + 1) = false := by
  have hcleared : (s.gasCleared z was now).alc.holdsActive .gasTrip (z.val + 1) = false := by
    simp only [gasCleared, hwas, hnow, ne_eq, not_false_eq_true, and_self, if_true]
    refine clearAlarm_holdsActive ?_ (by decide) _
    split
    · exact (clearAlarm_recedes ..).keys_nodup hkeys
    · exact hkeys
  simp only [gasAlarms_eq, hnow, and_false, if_false]
  split
  · exact raiseAlarm_holdsActive_other (by decide) (by decide) hcleared _ _ _
  · exact hcleared

/-- R113: GAS_WARN is not active once its cause has gone. -/
theorem State.gasAlarms_warn_cleared {s : State} {z : Fin 31} {was now : Zone} (hkeys : s.alc.keys.Nodup)
    (hwas : was.gasWarn = true) (hnow : now.gasWarn = false) :
    (s.gasAlarms z was now).alc.holdsActive .gasWarn (z.val + 1) = false := by
  have hwarn : (s.clearAlarm .gasWarn (z.val + 1)).alc.holdsActive .gasWarn (z.val + 1) = false :=
    clearAlarm_holdsActive hkeys (by decide) _
  have hcleared : (s.gasCleared z was now).alc.holdsActive .gasWarn (z.val + 1) = false := by
    simp only [gasCleared, hwas, hnow, Bool.not_false, Bool.and_self, if_true]
    split
    · exact ((clearAlarm_recedes _ .gasTrip _).holdsActive (by decide) (by decide) _).trans hwarn
    · exact hwarn
  simp only [gasAlarms_eq, hnow, Bool.and_false, Bool.false_eq_true, if_false]
  split
  · exact raiseAlarm_holdsActive_other (by decide) (by decide) hcleared _ _ _
  · exact hcleared

/-! ## R151: the segments of a zone that has gone to TRIP -/

theorem State.gasAlarms_tripWatch {s : State} {z : Fin 31} {i : Fin 16} (hin : (s.segment i).inZone (z.val + 1) = true)
    (htrip : s.combined (z.val + 1) = .trip) (was now : Zone) : TripWatch i s (s.gasAlarms z was now) := by
  have hclear : ∀ {t : State} (k : AlarmKind) (n : Nat), TripWatch i s t → TripWatch i s (t.clearAlarm k n) := fun k n ht =>
    ht.step htrip (clearAlarm_still ..) (clearAlarm_follows (inZone_of_still ht.1 hin) k n)
  have hraise : ∀ {t : State} (k : AlarmKind) (n m : Nat) (d : Option DropRef), TripWatch i s t →
      TripWatch i s (t.raiseAlarm k n m d) := fun k n m d ht =>
    ht.step htrip (raiseAlarm_still ..) (raiseAlarm_follows (inZone_of_still ht.1 hin) k n m d)
  have hstart : TripWatch i s s := ⟨rfl, .inl rfl⟩
  have hcleared : TripWatch i s (s.gasCleared z was now) := by
    simp only [gasCleared]
    split <;> split
    · exact hclear _ _ (hclear _ _ hstart)
    · exact hclear _ _ hstart
    · exact hclear _ _ hstart
    · exact hstart
  rw [gasAlarms_eq]
  dsimp only
  split <;> split
  · exact hraise _ _ _ _ (hraise _ _ _ _ hcleared)
  · exact hraise _ _ _ _ hcleared
  · exact hraise _ _ _ _ hcleared
  · exact hcleared

/-- R151: a transition into TRIP shuts the zone's segments. -/
theorem State.transition_segment_trip {s : State} {z : Fin 31} {i : Fin 16} (hin : (s.segment i).inZone (z.val + 1) = true)
    (htrip : (s.zone z).combined = .trip) : (s.transition z).segment i = (s.segment i).shut := by
  have htrip' : s.combined (z.val + 1) = .trip := (s.combined_succ z).trans htrip
  obtain ⟨hstill, hsegment⟩ := driveRelays_tripWatch hin htrip' (·.guards z)
  have hin' : ((s.escalatedFor z).segment i).inZone (z.val + 1) = true := by
    rw [escalatedFor_segment]
    exact inZone_of_still hstill hin
  have hcombined : (s.escalatedFor z).combined (z.val + 1) = .trip := by
    rw [combined_of_zones (s.escalatedFor_zones z), htrip']
  rw [transition_segment, haulTransition, if_pos hcombined, closeZone_segment hin' (.inl hcombined), escalatedFor_segment]
  rcases hsegment with h | h <;> rw [h]
  exact Segment.shut_shut _

/-- R151: an evaluation that takes its zone into TRIP shuts the zone's segments. -/
theorem State.evaluate_segment_trip {s : State} {z : Fin 31} {i : Fin 16} (hin : (s.segment i).inZone (z.val + 1) = true)
    (hmoved : (s.zone z).combined ≠ (s.zoneNow z).combined) (htrip : (s.zoneNow z).combined = .trip) :
    (s.evaluate z).segment i = (s.segment i).shut := by
  have hreported : ((s.zoneReported z).segment i).inZone (z.val + 1) = true := by rwa [zoneReported_segment]
  have hhanded : s.zoneHanded z = (s.zoneReported z).transition z := by rw [zoneHanded, if_pos hmoved]
  have hshut : (s.zoneHanded z).segment i = (s.segment i).shut := by
    rw [hhanded, transition_segment_trip hreported (by rw [zoneReported_zone]; exact htrip), zoneReported_segment]
  have hin' : ((s.zoneHanded z).segment i).inZone (z.val + 1) = true := by
    rw [hshut, Segment.shut]
    split <;> exact hin
  have hcombined : (s.zoneHanded z).combined (z.val + 1) = .trip := by
    rw [combined_of_zones (s.zoneHanded_zones z), zoneReported_combined, htrip]
  obtain ⟨-, hsegment⟩ := gasAlarms_tripWatch hin' hcombined (s.zone z) (s.zoneNow z)
  rw [hshut] at hsegment
  rw [evaluate_eq]
  exact hsegment.elim (·) fun h => h.trans (Segment.shut_shut _)

theorem Segment.closedForGas_shut (g : Segment) : closedForGas g g.shut := by
  by_cases h : g.state = .gasClosed <;> simp [closedForGas, shut, h]

/-! ## R152: the segments of a zone that is not in TRIP -/

/-- R151, R152: how the segment `g` stands after an evaluation that leaves its zone out of TRIP, the zone's lockdown being `locked`:
closed for gas, or else as reopened where it was `tested`. -/
structure Segment.Stands (g : Segment) (tested may locked : Bool) (g' : Segment) : Prop where
  command : g'.commandClose = g.commandClose
  auto : g'.autoReopen = g.autoReopen
  closed : locked = true → g'.state = .gasClosed
  free : locked = false → g'.state = (if tested then g.reopened may else g).state

theorem Segment.shut_state (g : Segment) : g.shut.state = .gasClosed := by
  by_cases h : g.state = .gasClosed <;> simp [shut, h]

theorem Segment.shut_command (g : Segment) : g.shut.commandClose = g.commandClose := by simp only [shut]; split <;> rfl

theorem Segment.shut_auto (g : Segment) : g.shut.autoReopen = g.autoReopen := by simp only [shut]; split <;> rfl

theorem Segment.reopened_state (may : Bool) (g : Segment) : (g.reopened may).state
    = if g.state = .gasClosed ∧ g.autoReopen = true ∧ may = true then (if g.commandClose then .closed else .opened)
      else g.state := by
  simp only [reopened]
  split <;> rfl

theorem Segment.reopened_command (may : Bool) (g : Segment) : (g.reopened may).commandClose = g.commandClose := by
  simp only [reopened]
  split <;> rfl

theorem Segment.reopened_inZone (may : Bool) (g : Segment) (n : Nat) : (g.reopened may).inZone n = g.inZone n := by
  simp only [reopened]
  split <;> rfl

theorem Segment.reopened_auto (may : Bool) (g : Segment) : (g.reopened may).autoReopen = g.autoReopen := by
  simp only [reopened]
  split <;> rfl

/-- What a reopening makes of a segment, read off what it makes of the segment without its trucks. -/
theorem Segment.of_bare_reopened {g g' : Segment} {may : Bool} (h : g'.bare = g.bare.reopened may) :
    g'.commandClose = g.commandClose ∧ g'.autoReopen = g.autoReopen ∧ g'.state = (g.reopened may).state := by
  refine ⟨?_, ?_, ?_⟩
  · exact (congrArg Segment.commandClose h :).trans (g.bare.reopened_command may)
  · exact (congrArg Segment.autoReopen h :).trans (g.bare.reopened_auto may)
  · exact ((congrArg Segment.state h :).trans (g.bare.reopened_state may)).trans (g.reopened_state may).symm

/-- A segment that stands as R152 gives it stands so after its zone's lockdown has changed, where a lockdown that falls is one that
stood before the evaluation. -/
theorem Segment.Stands.follows {c : ZState} {g g' g'' : Segment} {tested may was now : Bool} (h : g.Stands tested may was g')
    (hwas : was = true → g.state = .gasClosed ∧ tested = true) (hf : g'.Follows c may was now g'') :
    g.Stands tested may now g'' := by
  cases was <;> cases now
  · exact hf.same rfl ▸ h
  · rw [hf.rise rfl rfl]
    exact ⟨g'.shut_command.trans h.command, g'.shut_auto.trans h.auto, fun _ => g'.shut_state, fun hfree => by cases hfree⟩
  · obtain ⟨hstate, rfl⟩ := hwas rfl
    obtain ⟨hcommand, hauto, hopen⟩ := of_bare_reopened (hf.fall rfl rfl)
    refine ⟨hcommand.trans h.command, hauto.trans h.auto, fun hlocked => (by cases hlocked), fun _ => ?_⟩
    rw [hopen, if_pos rfl, reopened_state, reopened_state, h.command, h.auto, h.closed rfl, hstate]
  · exact hf.same rfl ▸ h

theorem Segment.Stands.free_state {g g' : Segment} {tested may : Bool} (h : g.Stands tested may false g') :
    g'.state = if g.state = .gasClosed ∧ g.autoReopen = true ∧ tested = true ∧ may = true then
      (if g.commandClose then .closed else .opened) else g.state := by
  rw [h.free rfl]
  cases tested
  · simp
  · rw [if_pos rfl, reopened_state]
    simp

/-- An evaluation under way that leaves its zone out of TRIP: what holds of zone `z` and of its segment `i`, which stood as `g` with the
zone's lockdown `locked`, until a condition is raised. -/
structure State.OpenWatch (z : Fin 31) (i : Fin 16) (g : Segment) (tested may locked : Bool) (t : State) : Prop where
  counted : t.alc.Counted
  inZone : (t.segment i).inZone (z.val + 1) = true
  reopens_eq : reopens (t.combined (z.val + 1)) (t.policy (z.val + 1)) = may
  lowered : t.lockedDown (z.val + 1) = true → locked = true
  stands : g.Stands tested may (t.lockedDown (z.val + 1)) (t.segment i)

section
variable {z : Fin 31} {i : Fin 16} {g : Segment} {tested may locked : Bool} {t : State}

/-- Between the zone's hand-on and a raise, and at the raise, the segment stands as R152 gives it. -/
theorem State.OpenWatch.stands_follows (h : OpenWatch z i g tested may locked t)
    (hlocked : locked = true → g.state = .gasClosed ∧ tested = true) {u : State} (hf : segmentFollows (z.val + 1) i t u) :
    g.Stands tested may (u.lockedDown (z.val + 1)) (u.segment i) := by
  rw [segmentFollows, h.reopens_eq] at hf
  exact h.stands.follows (fun hwas => hlocked (h.lowered hwas)) hf

theorem State.OpenWatch.clearAlarm (h : OpenWatch z i g tested may locked t)
    (hlocked : locked = true → g.state = .gasClosed ∧ tested = true) (k : AlarmKind) (n : Nat) :
    OpenWatch z i g tested may locked (t.clearAlarm k n) := by
  have hstill := t.clearAlarm_still k n
  obtain ⟨hcounted, hle, -⟩ := clearAlarm_counted h.counted k n
  refine ⟨hcounted, inZone_of_still hstill h.inZone, ?_, fun hdown => h.lowered ?_,
    h.stands_follows hlocked (clearAlarm_follows h.inZone k n)⟩
  · rw [combined_of_still hstill, policy_of_still hstill, h.reopens_eq]
  · rw [lockedDown_succ, bne_iff_ne] at hdown ⊢
    have := hle z
    omega

theorem State.OpenWatch.gasCleared (h : OpenWatch z i g tested may locked t)
    (hlocked : locked = true → g.state = .gasClosed ∧ tested = true) (was now : Zone) :
    OpenWatch z i g tested may locked (t.gasCleared z was now) := by
  simp only [State.gasCleared]
  split <;> split
  · exact (h.clearAlarm hlocked _ _).clearAlarm hlocked _ _
  · exact h.clearAlarm hlocked _ _
  · exact h.clearAlarm hlocked _ _
  · exact h

/-- R113: of the gas conditions GAS_WARN alone can be raised, and last, where the local state is not TRIP. -/
theorem State.OpenWatch.gasAlarms (h : OpenWatch z i g tested may locked t)
    (hlocked : locked = true → g.state = .gasClosed ∧ tested = true) {was now : Zone} (hlocal : now.localState ≠ .trip) :
    g.Stands tested may ((t.gasAlarms z was now).lockedDown (z.val + 1)) ((t.gasAlarms z was now).segment i) := by
  have hcleared := h.gasCleared hlocked was now
  simp only [gasAlarms_eq, hlocal, and_false, if_false]
  split
  · exact hcleared.stands_follows hlocked (raiseAlarm_follows hcleared.inZone _ _ _ _)
  · exact hcleared.stands

end

/-! ## The hand-on of a zone that is not in TRIP -/

theorem State.transition_alc (s : State) (z : Fin 31) : (s.transition z).alc
    = { (s.driveRelays (·.guards z)).alc with
        zoneCopy := (s.driveRelays (·.guards z)).alc.zoneCopy.set z (s.zone z).combined } := by
  rw [transition_eq, setAlc_alc, haulTransition_alc, escalatedFor_eq, setCsw_alc]

/-- R152: a transition to a state other than TRIP reopens the segments that may reopen. -/
theorem State.transition_segment_open {s : State} {z : Fin 31} {i : Fin 16} (hin : (s.segment i).inZone (z.val + 1) = true)
    (hcounted : s.alc.Counted) (hopen : (s.zone z).combined ≠ .trip) :
    ((s.transition z).segment i).bare = (s.segment i).bare.reopened (s.mayReopen (z.val + 1)) := by
  obtain ⟨-, hlock, hsegment⟩ := driveRelays_counted hcounted (·.guards z) hin
  have hzones := s.escalatedFor_zones z
  have hlock' : (s.escalatedFor z).alc.lockdown = s.alc.lockdown := by rw [escalatedFor_eq, setCsw_alc, hlock]
  have hsegment' : (s.escalatedFor z).segment i = s.segment i := (escalatedFor_segment s z i).trans hsegment
  have hcombined : (s.escalatedFor z).combined (z.val + 1) ≠ .trip := by rwa [combined_of_zones hzones, combined_succ]
  rw [transition_segment, haulTransition, if_neg hcombined, reopenZone_segment (hsegment' ▸ hin), hsegment', mayReopen_eq,
    mayReopen_eq, combined_of_zones hzones, policy_of_zones hzones, lockedDown_of_alc hlock']

/-- Where the hand-on moves no lockdown, the segment stands as R152 gives it if it has been reopened as it may. -/
theorem Segment.stands_of_reopened {g g' : Segment} {moved may locked : Bool} (hlocked : locked = true → g.state = .gasClosed)
    (h : g'.bare = if moved then g.bare.reopened (!locked && may) else g.bare) : g.Stands (moved || locked) may locked g' := by
  have hsame : g'.bare = g.bare → g'.commandClose = g.commandClose ∧ g'.autoReopen = g.autoReopen ∧ g'.state = g.state :=
    fun h => ⟨(congrArg Segment.commandClose h :), (congrArg Segment.autoReopen h :), (congrArg Segment.state h :)⟩
  cases locked
  · cases moved
    · obtain ⟨hcommand, hauto, hstate⟩ := hsame h
      exact ⟨hcommand, hauto, fun h => (by cases h), fun _ => hstate⟩
    · obtain ⟨hcommand, hauto, hstate⟩ := of_bare_reopened h
      exact ⟨hcommand, hauto, fun h => (by cases h), fun _ => hstate⟩
  · have hnone : g.bare.reopened (!true && may) = g.bare := if_neg (by simp)
    rw [hnone, ite_self] at h
    obtain ⟨hcommand, hauto, hstate⟩ := hsame h
    exact ⟨hcommand, hauto, fun _ => hstate.trans (hlocked rfl), fun h => (by cases h)⟩

theorem AlarmControl.Counted.setZoneCopy {a : AlarmControl} (h : a.Counted) (v : Vector ZState 31) :
    ({ a with zoneCopy := v } : AlarmControl).Counted := ⟨h.count, h.fault⟩

/-- What a zone's hand-on does to the counts, the lockdown and a used segment where the zone is not in TRIP. -/
theorem State.zoneHanded_segment {s : State} {z : Fin 31} {i : Fin 16} (hin : (s.segment i).inZone (z.val + 1) = true)
    (hcounted : s.alc.Counted) (hopen : (s.zoneNow z).combined ≠ .trip) :
    (s.zoneHanded z).alc.Counted ∧ (s.zoneHanded z).alc.lockdown = s.alc.lockdown
      ∧ ((s.zoneHanded z).segment i).bare = if decide ((s.zone z).combined ≠ (s.zoneNow z).combined) then
          (s.segment i).bare.reopened (!s.lockedDown (z.val + 1) && reopens (s.zoneNow z).combined (s.zone z).policy)
        else (s.segment i).bare := by
  have hin' : ((s.zoneReported z).segment i).inZone (z.val + 1) = true := by rwa [zoneReported_segment]
  have hcounted' : (s.zoneReported z).alc.Counted := by rwa [zoneReported_alc]
  obtain ⟨hdriven, hlock, hsegment⟩ := driveRelays_counted hcounted' (·.guards z) hin'
  rw [zoneReported_alc] at hlock
  rw [zoneReported_segment] at hsegment
  by_cases hmoved : (s.zone z).combined ≠ (s.zoneNow z).combined
  · have hhanded : s.zoneHanded z = (s.zoneReported z).transition z := if_pos hmoved
    have hmay : (s.zoneReported z).mayReopen (z.val + 1)
        = (!s.lockedDown (z.val + 1) && reopens (s.zoneNow z).combined (s.zone z).policy) := by
      rw [mayReopen_eq, zoneReported_combined, lockedDown_of_alc_eq (s.zoneReported_alc z), zoneReported_policy]
    have hreopened := transition_segment_open hin' hcounted' (by rwa [zoneReported_zone])
    rw [hmay, zoneReported_segment] at hreopened
    rw [hhanded, if_pos (decide_eq_true hmoved), transition_lockdown, transition_alc]
    exact ⟨hdriven.setZoneCopy _, hlock, hreopened⟩
  · have hhanded : s.zoneHanded z
        = if !(s.zone z).evaluated then (s.zoneReported z).driveRelays (·.guards z) else s.zoneReported z := if_neg hmoved
    rw [hhanded, decide_eq_false hmoved, if_neg Bool.false_ne_true]
    split
    · exact ⟨hdriven, hlock, by rw [hsegment]⟩
    · exact ⟨hcounted', by rw [zoneReported_alc], by rw [zoneReported_segment]⟩

/-- The zone has been handed on, and its gas conditions have not been changed yet. -/
theorem State.zoneHanded_openWatch {s : State} {z : Fin 31} {i : Fin 16} (hin : (s.segment i).inZone (z.val + 1) = true)
    (hcounted : s.alc.Counted) (hgas : s.lockedDown (z.val + 1) = true → (s.segment i).state = .gasClosed)
    (hopen : (s.zoneNow z).combined ≠ .trip) :
    OpenWatch z i (s.segment i) (decide ((s.zone z).combined ≠ (s.zoneNow z).combined) || s.lockedDown (z.val + 1))
      (reopens (s.zoneNow z).combined (s.zone z).policy) (s.lockedDown (z.val + 1)) (s.zoneHanded z) := by
  obtain ⟨hcounted', hlock, hbare⟩ := zoneHanded_segment hin hcounted hopen
  have hdown := lockedDown_of_alc hlock (z.val + 1)
  have hzones := s.zoneHanded_zones z
  refine ⟨hcounted', ?_, ?_, fun h => hdown.symm.trans h, ?_⟩
  · have hinZone := congrArg (Segment.inZone · (z.val + 1)) hbare
    rw [apply_ite (Segment.inZone · (z.val + 1)), Segment.reopened_inZone, ite_self] at hinZone
    exact hinZone.trans hin
  · rw [combined_of_zones hzones, policy_of_zones hzones, zoneReported_combined, zoneReported_policy]
  · rw [hdown]
    exact Segment.stands_of_reopened hgas hbare

/-! ## The evaluation of a zone, as the obligations say it -/

theorem State.counted_of_sound {s : State} (houtputs : s.outputsSound = true) (halarms : s.alarmsSound = true) :
    s.alc.Counted := by
  simp only [outputsSound, Bool.and_eq_true, List.all_eq_true, beq_iff_eq] at houtputs
  simp only [alarmsSound, Bool.and_eq_true, List.all_eq_true, Bool.or_eq_true, bne_iff_ne, beq_iff_eq] at halarms
  obtain ⟨⟨⟨hlock, -⟩, -⟩, -⟩ := houtputs
  obtain ⟨-, hfault⟩ := halarms
  refine ⟨?_, fun e he hkind => (hfault e he).resolve_left fun hne => hne hkind⟩
  ext z hz
  rw [vgen_getElem]
  exact hlock ⟨z, hz⟩ (List.mem_finRange _)

theorem State.keys_of_sound {s : State} (halarms : s.alarmsSound = true) : s.alc.keys.Nodup := by
  simp only [alarmsSound, Bool.and_eq_true, decide_eq_true_eq] at halarms
  obtain ⟨⟨⟨⟨⟨-, hkeys⟩, -⟩, -⟩, -⟩, -⟩ := halarms
  exact hkeys

/-- R151, R164: a used segment of a zone in lockdown is closed for gas. -/
theorem State.gasClosed_of_sound {s : State} (hgas : s.gasSound = true) {i : Fin 16} (hid : (s.segment i).id ≠ 0)
    (hlocked : s.lockedDown (s.segment i).zone = true) : (s.segment i).state = .gasClosed := by
  simp only [gasSound, List.all_eq_true] at hgas
  simpa [hid, hlocked] using hgas i (List.mem_finRange i)

/-- R113: a zone whose combined state is not TRIP has not TRIP as its local state. -/
theorem State.zoneNow_local_ne_trip {s : State} {z : Fin 31} (h : (s.zoneNow z).combined ≠ .trip) :
    (s.zoneNow z).localState ≠ .trip := by
  intro hlocal
  have hlocal : s.localNow z = .trip := hlocal
  refine h ?_
  rw [zoneNow, ← Zone.zoneCombined_eq, hlocal, zoneCombined]
  simp

/-- R151, R152: the segments follow an evaluation of their zone. -/
theorem State.evaluate_segmentsFollow (s : State) (z : Fin 31) :
    segmentsFollow (z.val + 1) (s.zoneNow z).combined (decide ((s.zone z).combined ≠ (s.zoneNow z).combined)) false s
      (s.evaluate z) := by
  intro i g g' hid hzone
  have hin : (s.segment i).inZone (z.val + 1) = true := by
    simp only [Segment.inZone, Bool.and_eq_true, bne_iff_ne, beq_iff_eq]
    exact ⟨hid, hzone⟩
  refine ⟨fun htrip hmoved => ?_, fun hopen houtputs halarms hgas => ?_⟩
  · have hshut : g' = g.shut := evaluate_segment_trip hin (of_decide_eq_true hmoved) htrip
    rw [hshut]
    exact g.closedForGas_shut
  · have hclosed : s.lockedDown (z.val + 1) = true → g.state = .gasClosed := fun h => gasClosed_of_sound hgas hid (hzone ▸ h)
    have hwatch := zoneHanded_openWatch hin (counted_of_sound houtputs halarms) hclosed hopen
    have hlocal : (s.zoneNow z).localState ≠ .trip := zoneNow_local_ne_trip hopen
    have hstands := hwatch.gasAlarms (fun h => ⟨hclosed h, by rw [h, Bool.or_true]⟩) (was := s.zone z) hlocal
    rw [← evaluate_eq] at hstands
    have hpolicy : (s.evaluate z).policy (z.val + 1) = (s.zone z).policy := by rw [policy_succ, evaluate_zone]; rfl
    refine ⟨hstands.command, hstands.closed, fun hfree => ?_⟩
    intro tested
    rw [hfree] at hstands
    have hstate := hstands.free_state
    have htested : (decide ((s.zone z).combined ≠ (s.zoneNow z).combined) || s.lockedDown (z.val + 1)) = true ↔ tested := by
      simp [tested]
    simp only [htested, ← hpolicy] at hstate
    split <;> rename_i hcond
    · exact hstate.trans (if_pos hcond)
    · exact hstate.trans (if_neg hcond)

/-- R107, R113: an evaluation does what section 6.6 says of it, whatever the state. -/
theorem State.evaluate_zoneEvaluated (s : State) (z : Fin 31) : zoneEvaluated z s (s.evaluate z) := by
  have hlocal : zoneLocal s z = (s.zoneNow z).localState := zoneLocal_eq s z
  have hcombined : zoneCombined (s.zone z) (zoneLocal s z) = (s.zoneNow z).combined := by
    rw [Zone.zoneCombined_eq, hlocal]; rfl
  have hrecedes := s.zoneHanded_recedes z
  have hroom : s.alc.alarms.length < 32 → (s.zoneHanded z).alc.alarms.length < 32 := hrecedes.length_le.trans_lt
  have hkeys : s.alarmsSound = true → (s.zoneHanded z).alc.keys.Nodup := fun h => hrecedes.keys_nodup (keys_of_sound h)
  have hwarns : (s.zoneNow z).gasWarn = true ↔ _ := s.warnsNow_eq_true (z := z)
  unfold zoneEvaluated zoneEvaluatedWith
  simp only [hcombined]
  refine ⟨?_, fun y hy => s.evaluate_zone_ne hy, s.evaluate_base z, fun hmoved => evaluate_zoneCopy hmoved,
    s.evaluate_circuits z, s.evaluate_segmentsFollow z, fun h hwas hnow => ?_, fun h hwas hnow => ?_, fun h hwas hnow => ?_,
    fun h hwas hnow => ?_⟩
  · have hsent : (if (s.zone z).localState ≠ zoneLocal s z ∧ (s.zone z).enabled = true ∨ false = true then s.time
        else (s.zone z).lastSent) = s.sentNow z := by simp [sentNow, zoneLocal_eq]
    simp only [evaluate_zone, hsent, ← hwarns, Bool.decide_eq_true]
    rw [hlocal]
    rfl
  · rw [evaluate_eq]
    have hwarn : (s.zoneNow z).gasWarn = false := Bool.eq_false_iff.mpr fun h => by
      rw [(hwarns.mp h).1] at hnow
      cases hnow
    exact gasAlarms_trip_raised (hroom h) hwas (hlocal ▸ hnow) hwarn
  · rw [evaluate_eq]
    exact gasAlarms_trip_cleared (hkeys h) hwas (hlocal ▸ hnow)
  · rw [evaluate_eq]
    exact gasAlarms_warn_raised (hroom h) hwas (hwarns.mpr hnow) (by rw [← hlocal, hnow.1]; decide)
  · rw [evaluate_eq]
    exact gasAlarms_warn_cleared (hkeys h) hwas (Bool.eq_false_iff.mpr fun h => hnow (hwarns.mp h))

end Sys2Proof.Machine
end

section
/-! R110 to R112: the reporters of a zone. -/

namespace Sys2Proof.Machine

/-! ## R110: the reporter list after a report -/

/-- R110: of the best entry so far and the next CLEAR one, the one with the earlier report time. -/
def olderReporter (now : Time) (best : Option Reporter) (r : Reporter) : Option Reporter :=
  match best with
  | none => some r
  | some b => if (now - b.time).toNat < (now - r.time).toNat then some r else some b

theorem oldestClear_eq (now : Time) (rs : List Reporter) :
    oldestClear now rs = (rs.filter (·.state == .clear)).foldl (olderReporter now) none := rfl

theorem olderReporter_cases (now : Time) (best : Option Reporter) (r : Reporter) :
    olderReporter now best r = some r ∨ (best ≠ none ∧ olderReporter now best r = best) := by
  cases best with
  | none => exact .inl rfl
  | some b =>
    simp only [olderReporter]
    split
    · exact .inl rfl
    · exact .inr ⟨by simp, rfl⟩

/-- The oldest of a list is one of it, where there is any. -/
theorem foldl_olderReporter (now : Time) (rs : List Reporter) (best : Option Reporter) :
    rs.foldl (olderReporter now) best = best ∧ (best ≠ none ∨ rs = [])
      ∨ ∃ r ∈ rs, rs.foldl (olderReporter now) best = some r := by
  induction rs generalizing best with
  | nil => exact .inl ⟨rfl, .inr rfl⟩
  | cons r rs ih =>
    rw [List.foldl_cons]
    rcases ih (olderReporter now best r) with ⟨hsame, -⟩ | ⟨x, hx, hfold⟩
    · rcases olderReporter_cases now best r with h | ⟨hne, h⟩
      · exact .inr ⟨r, List.mem_cons_self, hsame.trans h⟩
      · exact .inl ⟨hsame.trans h, .inl hne⟩
    · exact .inr ⟨x, List.mem_cons_of_mem r hx, hfold⟩

theorem oldestClear_none {now : Time} {rs : List Reporter} (h : ∀ r ∈ rs, r.state ≠ .clear) : oldestClear now rs = none := by
  rw [oldestClear_eq, List.filter_eq_nil_iff.mpr (by simpa using h)]
  rfl

theorem oldestClear_some {now : Time} {rs : List Reporter} (h : ∃ r ∈ rs, r.state = .clear) :
    ∃ x ∈ rs, oldestClear now rs = some x := by
  obtain ⟨r, hr, hclear⟩ := h
  have hmem : r ∈ rs.filter (·.state == .clear) := List.mem_filter.mpr ⟨hr, by simp [hclear]⟩
  rw [oldestClear_eq]
  rcases foldl_olderReporter now (rs.filter (·.state == .clear)) none with ⟨-, h | h⟩ | ⟨x, hx, hfold⟩
  · exact absurd rfl h
  · rw [h] at hmem
    cases hmem
  · exact ⟨x, List.mem_of_mem_filter hx, hfold⟩

/-- R110: a report of a node that has an entry, or finds room, or replaces a CLEAR entry, is taken. -/
theorem reporterUpdate_taken {rs : List Reporter} {node : Nat} {st : RepState} {now : Time}
    (h : ¬(¬rs.any (·.node == node) = true ∧ 8 ≤ rs.length) ∨ (st ≠ .clear ∧ ∃ r ∈ rs, r.state = .clear)) :
    reporterUpdate rs node st now = some (true, reportersAfter rs ⟨node, st, now⟩ now) := by
  by_cases hknown : rs.any (·.node == node) = true
  · simp only [reporterUpdate, reportersAfter, hknown, if_true]
  · by_cases hlength : rs.length < 8
    · simp only [reporterUpdate, reportersAfter, hknown, hlength, if_true, if_false, Bool.false_eq_true]
    · obtain ⟨hst, hclear⟩ := h.resolve_left fun h => h ⟨hknown, by omega⟩
      obtain ⟨x, -, hx⟩ := oldestClear_some (now := now) hclear
      simp only [reporterUpdate, reportersAfter, hknown, hlength, hst, hx, if_false, Bool.false_eq_true]

/-- R110: a CLEAR report of a node that has no entry is dropped by a full list. -/
theorem reporterUpdate_dropped {rs : List Reporter} {node : Nat} (hknown : ¬rs.any (·.node == node) = true)
    (hfull : 8 ≤ rs.length) (now : Time) : reporterUpdate rs node .clear now = some (false, rs) := by
  simp only [reporterUpdate, hknown, Nat.not_lt.mpr hfull, if_true, if_false, Bool.false_eq_true]

/-- R110: any other is lost to a full list without a CLEAR entry. -/
theorem reporterUpdate_overflow {rs : List Reporter} {node : Nat} {st : RepState} (hknown : ¬rs.any (·.node == node) = true)
    (hfull : 8 ≤ rs.length) (hst : st ≠ .clear) (hnone : ∀ r ∈ rs, r.state ≠ .clear) (now : Time) :
    reporterUpdate rs node st now = none := by
  simp only [reporterUpdate, hknown, Nat.not_lt.mpr hfull, hst, oldestClear_none hnone, if_false, Bool.false_eq_true]

theorem mem_of_oldestClear {now : Time} {rs : List Reporter} {x : Reporter} (h : oldestClear now rs = some x) : x ∈ rs := by
  rw [oldestClear_eq] at h
  rcases foldl_olderReporter now (rs.filter (·.state == .clear)) none with ⟨hsame, -⟩ | ⟨y, hy, hfold⟩
  · rw [hsame] at h
    cases h
  · rw [hfold] at h
    cases h
    exact List.mem_of_mem_filter hy

/-- R105: a node without an entry gains its one. -/
theorem nodup_nodes_append {rs : List Reporter} {r : Reporter} (h : (rs.map (·.node)).Nodup) (hnew : ∀ x ∈ rs, x.node ≠ r.node) :
    ((rs ++ [r]).map (·.node)).Nodup := by
  rw [List.map_append, List.nodup_append]
  refine ⟨h, List.nodup_singleton _, fun a ha b hb => ?_⟩
  obtain ⟨x, hx, rfl⟩ := List.mem_map.mp ha
  rw [List.mem_map] at hb
  obtain ⟨y, hy, rfl⟩ := hb
  rw [List.mem_singleton.mp hy]
  exact hnew x hx

/-- R105, R110: the list keeps one entry for a node, and eight at most. -/
theorem reportersAfter_bounded {rs : List Reporter} (r : Reporter) (now : Time) (hnodup : (rs.map (·.node)).Nodup)
    (hlength : rs.length ≤ 8) :
    ((reportersAfter rs r now).map (·.node)).Nodup ∧ (reportersAfter rs r now).length ≤ 8 := by
  rw [reportersAfter]
  by_cases hknown : rs.any (·.node == r.node) = true
  · have hnodes : (rs.map fun x => if x.node = r.node then r else x).map (·.node) = rs.map (·.node) := by
      rw [List.map_map]
      refine List.map_congr_left fun x _ => ?_
      by_cases hx : x.node = r.node <;> simp [hx]
    rw [if_pos hknown, hnodes, List.length_map]
    exact ⟨hnodup, hlength⟩
  · have hnew : ∀ x ∈ rs, x.node ≠ r.node := by simpa using hknown
    rw [if_neg hknown]
    split
    · rename_i hroom
      exact ⟨nodup_nodes_append hnodup hnew, by rw [List.length_append, List.length_singleton]; omega⟩
    · split
      · rename_i x hx
        have hmem := mem_of_oldestClear hx
        have hpos := List.length_pos_of_mem hmem
        refine ⟨nodup_nodes_append (hnodup.sublist (List.erase_sublist.map _)) fun y hy => hnew y (List.mem_of_mem_erase hy), ?_⟩
        rw [List.length_append, List.length_singleton, List.length_erase_of_mem hmem]
        omega
      · exact ⟨hnodup, hlength⟩

/-! ## R110: a zone report -/

/-- R110: what the reporter list's change, or its absence, makes of the node. -/
def State.listReport (s : State) (z : Fin 31) : Option (Bool × List Reporter) → State
  | some (true, rs) => (s.setZone z { s.zone z with reporters := rs }).evaluate z
  | some (false, _) => s
  | none => s.raise .zoneReportOverflow

theorem State.listReport_overflow (s : State) (z : Fin 31) : s.listReport z none = s.raise .zoneReportOverflow := rfl

/-- The state that a report's word names (R110). -/
def reportedState (word : Nat) : RepState := if word = 0 then .clear else if word = 1 then .alert else .trip

theorem repStateOf_le {word : Nat} (h : word ≤ 2) : repStateOf word = some (reportedState word) := by
  match word, h with
  | 0, _ => rfl
  | 1, _ => rfl
  | 2, _ => rfl

theorem repStateOf_gt {word : Nat} (h : 2 < word) : repStateOf word = none := by
  match word, h with
  | _ + 3, _ => rfl

/-- R110: the checks that a report fails. -/
def Frame.badReport (d : Frame) (node : Nat) : Prop :=
  d.src.station ≠ 241 ∨ d.src.node = 0 ∨ 62 < d.src.node ∨ d.src.node = node ∨ d.tag = 0 ∨ 31 < d.tag
    ∨ d.payload.length < 2 ∨ 2 < halfAt d.payload 0

theorem zoneIx_none {n : Nat} (h : n = 0 ∨ 31 < n) : zoneIx n = none := dif_neg (by omega)

/-- R110: a report that fails a check is discarded. -/
theorem State.zoneReport_bad {s : State} {d : Frame} (h : d.badReport s.node) (f : Stored) : s.zoneReport f d = s := by
  rw [zoneReport]
  split
  · rfl
  · rename_i hchecks
    split
    · rename_i z st hzone hstate
      have htag : ¬(d.tag = 0 ∨ 31 < d.tag) := fun htag => by
        rw [zoneIx_none htag] at hzone
        cases hzone
      have hword : ¬2 < halfAt d.payload 0 := fun hword => by
        rw [repStateOf_gt hword] at hstate
        cases hstate
      rw [Frame.badReport] at h
      tauto
    · rfl

/-- R110: a report that passes the checks, for a zone that is enabled, changes the reporter list. -/
theorem State.zoneReport_good {s : State} {d : Frame} {z : Fin 31} (h : ¬d.badReport s.node) (htag : d.tag = z.val + 1)
    (f : Stored) : s.zoneReport f d = if !(s.zone z).enabled then s else
      s.listReport z (reporterUpdate (s.zone z).reporters d.src.node (reportedState (halfAt d.payload 0)) s.time) := by
  have hchecks : ¬(d.src.station ≠ 241 ∨ d.src.node = 0 ∨ 62 < d.src.node ∨ d.src.node = s.node ∨ d.payload.length < 2) := by
    rw [Frame.badReport] at h
    tauto
  have hword : ¬2 < halfAt d.payload 0 := fun hword => by
    rw [Frame.badReport] at h
    tauto
  have hzone : zoneIx d.tag = some z := htag ▸ zoneIx_succ z
  rw [zoneReport, if_neg hchecks, hzone, repStateOf_le (by omega)]
  dsimp only
  split
  · rfl
  · split <;> rename_i hupdate <;> rw [hupdate] <;> rfl

/-! ## The steps -/

theorem State.zone_of_quiet {s t : State} (h : t.quiet = s.quiet) (z : Fin 31) : t.zone z = s.zone z :=
  zone_of_still (still_of_quiet h) z

theorem State.time_of_quiet {s t : State} (h : t.quiet = s.quiet) : t.time = s.time := time_of_still (still_of_quiet h)

theorem State.node_of_quiet {s t : State} (h : t.quiet = s.quiet) : t.node = s.node :=
  congrArg NodeTable.node (table_of_quiet h)

/-- States that agree but for the traffic agree so too once a zone has the same record in both. -/
theorem State.setZone_quiet_congr {s t : State} (h : t.quiet = s.quiet) (z : Fin 31) (x : Zone) :
    (t.setZone z x).quiet = (s.setZone z x).quiet :=
  congrArg (fun q : State => q.setZone z x) h

/-- What an evaluation is said to do is said of no traffic. -/
theorem State.zoneEvaluated_of_quiet {z : Fin 31} {s t u : State} (h : zoneEvaluated z s t) (hquiet : u.quiet = t.quiet) :
    zoneEvaluated z s u := by
  have h' : zoneEvaluated z s t.quiet := h
  rw [← hquiet] at h'
  exact h'

/-- A zone's reporters have changed, the zone is evaluated, and the step ends. -/
theorem State.reportersEvaluated {s k : State} (hk : k.quiet = s.quiet) (z : Fin 31) (rs : List Reporter) :
    ∃ y : State, y.quiet = (s.setZone z { s.zone z with reporters := rs }).quiet
      ∧ zoneEvaluated z y ((k.setZone z { k.zone z with reporters := rs }).evaluate z) :=
  ⟨_, by rw [zone_of_quiet hk]; exact setZone_quiet_congr hk z _, evaluate_zoneEvaluated _ z⟩

theorem State.reportersEvaluated_settle {s k : State} (hk : k.quiet = s.quiet) (z : Fin 31) (rs : List Reporter) :
    ∃ y : State, y.quiet = (s.setZone z { s.zone z with reporters := rs }).quiet
      ∧ zoneEvaluated z y ((k.setZone z { k.zone z with reporters := rs }).evaluate z).settle := by
  obtain ⟨y, hy, heval⟩ := reportersEvaluated hk z rs
  exact ⟨y, hy, zoneEvaluated_of_quiet heval (settle_quiet _)⟩

/-- ZONE_REPORT_RECEIVE on a zone report that LOCAL hands over. -/
theorem exec_zoneReportReceive {s : State} {u : Upsets} {f : Stored} {d : Frame} (h : s.hands u 241 f d = true)
    (hsubtype : d.subtype = 1) : exec (.zoneReportReceive u) s = .next ((s.taken u f).zoneReport f d).settle := by
  have hrow : exec (.zoneReportReceive u) s = done (s.takeRow 241 u (·.subtype == 1) State.zoneReport) := rfl
  rw [hrow, State.takeRow_hands h (by simp [hsubtype])]
  rfl

/-- REPORTER_AGEING (R111). -/
theorem exec_reporterAgeing (s : State) (z : Fin 31) (node : Nat) : exec (.reporterAgeing z node) s = done (
    if s.ageingDue z node then
      (s.setZone z { s.zone z with
        reporters := (s.zone z).reporters.map fun r => if r.node = node then { r with state := .stale } else r }).evaluate z
    else s) := rfl

theorem State.ageingDue_iff {s : State} {z : Fin 31} {node : Nat} : s.ageingDue z node = true ↔
    ∃ r ∈ (s.zone z).reporters, r.node = node ∧ r.state ≠ .stale ∧ 35000 ≤ (s.time - r.time).toNat := by
  rw [ageingDue, List.any_eq_true]
  refine exists_congr fun r => and_congr_right fun _ => ?_
  simp only [Bool.and_eq_true, beq_iff_eq, bne_iff_ne, decide_eq_true_eq, and_assoc]
  rfl

/-- CLEAR_REPORTER (R112). -/
theorem exec_clearReporter (u : Upsets) (s : State) :
    exec (.clearReporter u) s = s.command u (.clearReporter []) 2 State.clearReporter := rfl

/-! ## R112: CLEAR_REPORTER -/

theorem withZone_none {n : Nat} (h : n = 0 ∨ 31 < n) (act : Fin 31 → CommandResult) : withZone n act = refuse .badIndex 0 := by
  rw [withZone, zoneIx_none h]

theorem withZone_succ {n : Nat} {z : Fin 31} (h : n = z.val + 1) (act : Fin 31 → CommandResult) : withZone n act = act z := by
  rw [withZone, h, zoneIx_succ]

/-- R112: no entry of the node: nothing to clear. -/
theorem State.clearReporter_absent {s : State} {args : List Nat} {z : Fin 31} (hz : arg args 1 = z.val + 1)
    (h : ∀ r ∈ (s.zone z).reporters, r.node ≠ arg args 2) : s.clearReporter args = ok s := by
  have hfind : (s.zone z).reporters.find? (·.node == arg args 2) = none := List.find?_eq_none.mpr (by simpa using h)
  rw [clearReporter, withZone_succ hz]
  dsimp only
  rw [hfind]

theorem find_reporter {before after : List Reporter} {r : Reporter} {node : Nat} (hr : r.node = node)
    (hbefore : ∀ x ∈ before, x.node ≠ node) : (before ++ r :: after).find? (·.node == node) = some r := by
  rw [List.find?_append, List.find?_eq_none.mpr (by simpa using hbefore), Option.none_or, List.find?_cons_of_pos (by simp [hr])]

/-- R112: the entry of the node is removed if it is STALE. -/
theorem State.clearReporter_found {s : State} {args : List Nat} {z : Fin 31} {before after : List Reporter} {r : Reporter}
    (hz : arg args 1 = z.val + 1) (hlist : (s.zone z).reporters = before ++ r :: after) (hr : r.node = arg args 2)
    (hbefore : ∀ x ∈ before, x.node ≠ arg args 2) : s.clearReporter args =
      if r.state = .stale then ok ((s.setZone z { s.zone z with reporters := before ++ after }).evaluate z)
      else refuse .stillActive 0 := by
  have herase : (before ++ r :: after).erase r = before ++ after := by
    rw [List.erase_append_right _ fun h => hbefore r h hr, List.erase_cons_head]
  rw [clearReporter, withZone_succ hz]
  dsimp only
  rw [hlist, find_reporter hr hbefore, ← herase]

/-- A command that ends in a reply alone leaves the node as the request's taking left it. -/
theorem State.command_replies {s : State} {u : Upsets} {f : Stored} {d : Frame} {row : Instr} {n : Nat} {r : Refused}
    {act : List Nat → State → CommandResult} (h : s.commands u f d row n = true)
    (ha : act (commandArgs d.payload) (s.taken u f) = .error r
      ∨ r = okStatus ∧ act (commandArgs d.payload) (s.taken u f) = ok (s.taken u f)) :
    Answers (s.command u row n act) d r [] fun t => t = s.taken u f ∧ t.quiet = s.quiet := by
  refine ⟨s.taken u f, _, ?_, rfl, reply_settle_quiet .., rfl, taken_quiet ..⟩
  rw [command_commands h]
  rcases ha with ha | ⟨rfl, ha⟩ <;> rw [ha] <;> rfl

/-- R110: the checked report as LOCAL hands it over, by the zone and the time base of before. -/
theorem State.zoneReport_taken {s : State} {d : Frame} {z : Fin 31} (h : ¬d.badReport s.node) (htag : d.tag = z.val + 1)
    (henabled : (s.zone z).enabled = true) (u : Upsets) (f : Stored) : (s.taken u f).zoneReport f d = (s.taken u f).listReport z
      (reporterUpdate (s.zone z).reporters d.src.node (reportedState (halfAt d.payload 0)) s.time) := by
  have htaken := s.taken_quiet u f
  rw [zoneReport_good (by rwa [node_of_quiet htaken]) htag, zone_of_quiet htaken, time_of_quiet htaken, henabled]
  rfl

/-- R110: a zone that is not enabled takes no report. -/
theorem State.zoneReport_disabled {s : State} {d : Frame} {z : Fin 31} (h : ¬d.badReport s.node) (htag : d.tag = z.val + 1)
    (henabled : (s.zone z).enabled = false) (u : Upsets) (f : Stored) : (s.taken u f).zoneReport f d = s.taken u f := by
  have htaken := s.taken_quiet u f
  rw [zoneReport_good (by rwa [node_of_quiet htaken]) htag, zone_of_quiet htaken, henabled]
  rfl

/-- Settles O36: each step is the evaluation of a zone whose reporters have changed, or changes nothing but the traffic; and an evaluation
does from every state what the statement says of it (`State.evaluate_zoneEvaluated`). -/
theorem reportersComeAndAge : Obligations.ReportersComeAndAge := by
  refine ⟨fun u f d s hhands hsubtype => ?_, fun z node s hdue => ?_, fun z node s hidle => ?_,
    fun rs r now => reportersAfter_bounded r now, fun u f d s hcommands => ?_⟩
  · have htaken := s.taken_quiet u f
    have hquiet : (s.taken u f).settle.quiet = s.quiet := (State.settle_quiet _).trans htaken
    refine ⟨_, exec_zoneReportReceive hhands hsubtype, fun hbad => ?_, fun z htag hgood => ⟨fun hdisabled => ?_,
      fun henabled hfull hclear => ?_, fun henabled hfull hnotClear hnone => ?_, fun henabled hroom => ?_⟩⟩
    · rw [State.zoneReport_bad (by rw [State.node_of_quiet htaken]; exact hbad)]
      exact ⟨rfl, hquiet⟩
    · rw [State.zoneReport_disabled hgood htag hdisabled]
      exact ⟨rfl, hquiet⟩
    · have hclear : reportedState (halfAt d.payload 0) = .clear := hclear
      rw [State.zoneReport_taken hgood htag henabled, hclear, reporterUpdate_dropped hfull.1 hfull.2]
      exact ⟨rfl, hquiet⟩
    · rw [State.zoneReport_taken hgood htag henabled,
        reporterUpdate_overflow (st := reportedState (halfAt d.payload 0)) hfull.1 hfull.2 hnotClear hnone, State.listReport_overflow]
      exact ⟨rfl, State.settle_keeps_has (State.raise_has ..),
        ((State.settle_quiet _).trans (State.raise_quiet ..)).trans htaken⟩
    · rw [State.zoneReport_taken hgood htag henabled,
        reporterUpdate_taken (st := reportedState (halfAt d.payload 0)) hroom]
      exact State.reportersEvaluated_settle htaken z _
  · rw [exec_reporterAgeing, if_pos (State.ageingDue_iff.mpr hdue)]
    exact ⟨_, rfl, State.reportersEvaluated_settle rfl z _⟩
  · have hnotDue : ¬s.ageingDue z node = true := by
      rw [State.ageingDue_iff]
      rintro ⟨r, hr, hnode, hstate, hage⟩
      rcases hidle r hr hnode with h | h
      · exact hstate h
      · omega
    rw [exec_reporterAgeing, if_neg hnotDue]
    rfl
  · have htaken := s.taken_quiet u f
    rw [exec_clearReporter]
    refine ⟨fun hn => ⟨0, State.command_replies hcommands (.inl (withZone_none hn _))⟩, fun z hz => ⟨fun habsent => ?_,
      fun before r after hlist hr hbefore => ⟨fun hstate => ⟨0, ?_⟩, fun hstate => ?_⟩⟩⟩
    · rw [← State.zone_of_quiet htaken] at habsent
      exact State.command_replies hcommands (.inr ⟨rfl, State.clearReporter_absent hz habsent⟩)
    · rw [← State.zone_of_quiet htaken] at hlist
      exact State.command_replies hcommands
        (.inl ((State.clearReporter_found hz hlist hr hbefore).trans (if_neg hstate)))
    · rw [← State.zone_of_quiet htaken] at hlist
      exact State.command_answers hcommands ((State.clearReporter_found hz hlist hr hbefore).trans (if_pos hstate))
        (State.reportersEvaluated htaken z _)

end Sys2Proof.Machine
end
